-- ==== Sys2Proof/Word.lean ====
section
/-! DEFINITION. The words of the LK40: the bit vectors that the manual treats as bits (00 Identifiers and their ranges). -/

namespace Sys2Proof

/-- One byte of a frame, a record or an image. -/
abbrev Byte := BitVec 8

/-- Issuer code; 1 to 65534 are valid. -/
abbrev Issuer := BitVec 16

/-- Tag serial. -/
abbrev Serial := BitVec 32

/-- Key generation: a plain label. -/
abbrev Generation := BitVec 8

/-- The name of a context: use count × 64 + index (R74). -/
abbrev Handle := BitVec 16

/-- Install epoch, wrapping from 65535 to 0 (R5). -/
abbrev Epoch := BitVec 16

/-- Tag nonce, reader challenge, proof or seal: 8 bytes. -/
abbrev Half := BitVec 64

/-- One block of the cipher. -/
abbrev Block := BitVec 128

/-- One key of the cipher. -/
abbrev Key := BitVec 128

end Sys2Proof
end

