-- ==== Sys2Proof/Machine/Bytes.lean ====
section
/-! DEFINITION. Byte order (R171) and the two cyclic redundancy checks (R159, R26). -/

namespace Sys2Proof.Machine

/-- The n bytes of a value, most significant first (R171). -/
def toBytes : Nat → Nat → List Byte
  | 0, _ => []
  | n + 1, v => BitVec.ofNat 8 (v / 256 ^ n) :: toBytes n v

/-- The value of some bytes, most significant first (R171). -/
def fromBytes (bytes : List Byte) : Nat :=
  bytes.foldl (fun v b => v * 256 + b.toNat) 0

/-- The value of the n bytes of a body from an offset on. -/
def fieldAt (body : List Byte) (offset n : Nat) : Nat :=
  fromBytes ((body.drop offset).take n)

/-- One bit of the CRC-16 (R159). -/
def crc16Bit (r : BitVec 16) (bit : Bool) : BitVec 16 :=
  if (r.msb ^^ bit) = true then (r <<< 1) ^^^ 0x1021#16 else r <<< 1

/-- One byte of the CRC-16, most significant bit first (R159). -/
def crc16Byte (r : BitVec 16) (b : Byte) : BitVec 16 :=
  [7, 6, 5, 4, 3, 2, 1, 0].foldl (fun r i => crc16Bit r (b.getLsbD i)) r

/-- The CRC-16 of a frame's bytes from the length on (R159). -/
def crc16 (bytes : List Byte) : BitVec 16 :=
  bytes.foldl crc16Byte 0xFFFF#16

/-- One bit of the CRC-32 (R26). -/
def crc32Bit (r : BitVec 32) (bit : Bool) : BitVec 32 :=
  if (r.getLsbD 0 ^^ bit) = true then (r >>> 1) ^^^ 0xEDB88320#32 else r >>> 1

/-- One byte of the CRC-32, least significant bit first (R26). -/
def crc32Byte (r : BitVec 32) (b : Byte) : BitVec 32 :=
  [0, 1, 2, 3, 4, 5, 6, 7].foldl (fun r i => crc32Bit r (b.getLsbD i)) r

/-- The CRC-32 of an image (R26). -/
def crc32 (bytes : List Byte) : BitVec 32 :=
  ~~~(bytes.foldl crc32Byte 0xFFFFFFFF#32)

end Sys2Proof.Machine
end

