-- ==== Sys2Proof/Syntax.lean ====
section
/-! DEFINITION. The commands of the LK40: one constructor for each row of spec/opcode_table.json, in the table's order, with
the row's operands. A request's operands are the fields of its body (R174), each with the width of its field. -/

namespace Sys2Proof

/-- The two units of the Cipher Engine (R111). -/
inductive UnitName where
  | u0
  | u1
  deriving DecidableEq, Repr

/-- The bits of the outputs of a unit's two test operations that a fault of the unit inverts (R123): E of the stored test block,
and E⁻¹ of the stored expected output. Both are 0 in a unit without a fault (log 9). -/
structure UnitFault where
  forward : Block
  inverse : Block
  deriving DecidableEq, Repr

/-- The commands. -/
inductive Instr where
  /-- FRAME_RECEIVED (R160): the last CRC byte of a frame arrives. -/
  | frameReceived (last : Byte)
  /-- FRAME_GAP_TIMEOUT (R160): more than 1 ms passes between two bytes of a frame. -/
  | frameGapTimeout
  /-- REPLY_COMPLETE (R161): the last byte of a reply is sent. -/
  | replyComplete
  /-- OPEN (R76). -/
  | openTag (lane : Byte) (issuer : Issuer) (serial : Serial) (generation : Generation) (nonce : Half) (dwell : BitVec 16)
  /-- VERIFY (R80). -/
  | verify (handle : Handle) (proof : Half)
  /-- SEAL (R82). -/
  | sealTag (handle : Handle) (vehicleClass : Byte) (charge : BitVec 32) (sequence : BitVec 16)
  /-- CLOSE (R86). -/
  | close (handle : Handle)
  /-- QUERY (R87). -/
  | query (handle : Handle)
  /-- PREFETCH (R68). -/
  | prefetch (issuer : Issuer) (serial : Serial) (generation : Generation)
  /-- PURGE (R66). -/
  | purge (issuer : Issuer) (base : Serial) (exponent : Byte)
  /-- COLLECT (R168). -/
  | collect (count : Byte)
  /-- STATUS (R170). -/
  | status
  /-- STAGE_BEGIN (R23). -/
  | stageBegin (declared : BitVec 16) (imageId : BitVec 32)
  /-- STAGE_CHUNK (R24). -/
  | stageChunk (offset : BitVec 16) (bytes : List Byte)
  /-- STAGE_COMMIT (R26). -/
  | stageCommit (crc : BitVec 32)
  /-- STAGE_ABANDON (R25). -/
  | stageAbandon
  /-- KEY_READ (R17). -/
  | keyRead (index : Byte)
  /-- KEY_WITHDRAW (R15). -/
  | keyWithdraw (issuer : Issuer) (generation : Generation) (roles : Byte)
  /-- ROLLOVER (R40); the delays are in minutes. -/
  | rollover (issuer : Issuer) (a b : Generation) (start : BitVec 32) (d1 d2 d3 : BitVec 16)
  /-- ROLLBACK (R51). -/
  | rollback (issuer : Issuer)
  /-- TIME (R139). -/
  | time (value : BitVec 48)
  /-- LANES (R143). -/
  | lanes (setMask clearMask : Byte)
  /-- SERVICE on (R146). -/
  | serviceOn
  /-- SERVICE off (R146). -/
  | serviceOff
  /-- CONFIG (R144). -/
  | config (gantry : BitVec 16) (quota margin hot cool faultCode : Byte)
  /-- SELFTEST (R125). -/
  | selftest
  /-- RESTART (R149). -/
  | restart
  /-- LANE_TIME_TICK (R138): one advance of the time base. -/
  | laneTimeTick
  /-- DEADLINE_EVENT (R88) of the context at an index. -/
  | deadlineEvent (index : Nat)
  /-- LINGER_END (R88) of the context at an index. -/
  | lingerEnd (index : Nat)
  /-- WINDOW_END (R16) of every slot whose window has ended. -/
  | windowEnd
  /-- PHASE_DUE (R44): the next phase of an issuer's rollover record. -/
  | phaseDue (issuer : Issuer)
  /-- PREFETCH_EXPIRY (R70) of the prefetch job with an enqueue sequence. -/
  | prefetchExpiry (sequence : Nat)
  /-- THERMAL_READING (R153) of a die temperature in °C. -/
  | thermalReading (celsius : Int)
  /-- OPERATION_COMPLETE (R119) on a unit. -/
  | operationComplete (unit : UnitName)
  /-- SELFTEST_END (R123): what the faults of U0 and of U1 do to the outputs of their test operations. -/
  | selftestEnd (fault0 fault1 : UnitFault)
  /-- POWER_ON (R149). -/
  | powerOn
  /-- SUPPLY_LOSS (R149). -/
  | supplyLoss
  /-- RESET_N_LOW (R149). -/
  | resetNLow
  /-- RESET_END (R148): the straps RATE1 and RATE0 as read. -/
  | resetEnd (rate1 rate0 : Bool)
  /-- ZEROIZE (R150). -/
  | zeroize
  /-- BYTE_RECEIVED (R160): a byte arrives on RXD. -/
  | byteReceived (byte : Byte)
  /-- PROVISIONING (R20): the factory installs a transport key. -/
  | provisioning (key : Key)
  deriving DecidableEq, Repr

end Sys2Proof
end

