-- ==== Sys2Proof/WellFormed.lean ====
section
/-! DEFINITION. Which commands are well formed. An operand's width bounds most fields; the checks here are the bounds that a
width does not give. A value that the manual refuses or clamps by rule is well formed: the meaning refuses or clamps it. -/

namespace Sys2Proof

/-- A STAGE_CHUNK carries 1 to 240 image bytes (R24), an index names one of the 48 contexts (R73), an enqueue sequence
takes 48 bits (R113). -/
def Instr.wellFormed : Instr → Bool
  | .stageChunk _ bytes => 1 ≤ bytes.length && bytes.length ≤ 240
  | .deadlineEvent index => index < 48
  | .lingerEnd index => index < 48
  | .prefetchExpiry sequence => sequence < 281474976710656
  | .frameReceived _ => true
  | .frameGapTimeout => true
  | .replyComplete => true
  | .openTag _ _ _ _ _ _ => true
  | .verify _ _ => true
  | .sealTag _ _ _ _ => true
  | .close _ => true
  | .query _ => true
  | .prefetch _ _ _ => true
  | .purge _ _ _ => true
  | .collect _ => true
  | .status => true
  | .stageBegin _ _ => true
  | .stageCommit _ => true
  | .stageAbandon => true
  | .keyRead _ => true
  | .keyWithdraw _ _ _ => true
  | .rollover _ _ _ _ _ _ _ => true
  | .rollback _ => true
  | .time _ => true
  | .lanes _ _ => true
  | .serviceOn => true
  | .serviceOff => true
  | .config _ _ _ _ _ _ => true
  | .selftest => true
  | .restart => true
  | .laneTimeTick => true
  | .windowEnd => true
  | .phaseDue _ => true
  | .thermalReading _ => true
  | .operationComplete _ => true
  | .selftestEnd _ _ => true
  | .powerOn => true
  | .supplyLoss => true
  | .resetNLow => true
  | .resetEnd _ _ => true
  | .zeroize => true
  | .byteReceived _ => true
  | .provisioning _ => true

end Sys2Proof
end

