-- ==== Sys2Proof/Decode.lean ====
section
/-! DEFINITION. The requests as frames carry them: kinds and body lengths (R173), body layouts (R174), read and written. No
row of spec/opcode_table.json gives bits, so a table word spells no command. -/

namespace Sys2Proof

open Machine

/-- The command that a word spells by the table's bits: none, since no row of the table gives bits. -/
def decodeTableWord (_nbits _w : Nat) : Option Instr := none

/-- The shortest and the longest body of a request kind; none for a kind that is no request kind (R173). -/
def requestBody (kind : Byte) : Option (Nat × Nat) :=
  match kind.toNat with
  | 0x01 => some (18, 18)
  | 0x02 => some (10, 10)
  | 0x03 => some (9, 9)
  | 0x04 => some (2, 2)
  | 0x05 => some (2, 2)
  | 0x06 => some (7, 7)
  | 0x07 => some (1, 1)
  | 0x08 => some (0, 0)
  | 0x09 => some (6, 6)
  | 0x0A => some (3, 242)
  | 0x0B => some (4, 4)
  | 0x0C => some (0, 0)
  | 0x0D => some (1, 1)
  | 0x0E => some (4, 4)
  | 0x0F => some (14, 14)
  | 0x10 => some (2, 2)
  | 0x11 => some (7, 7)
  | 0x12 => some (6, 6)
  | 0x13 => some (2, 2)
  | 0x14 => some (1, 1)
  | 0x15 => some (7, 7)
  | 0x16 => some (0, 0)
  | 0x17 => some (0, 0)
  | _ => none

/-- What the Lane Link makes of a request frame before it reads the service state (checks 1 and 2 of R163). A SERVICE request
whose byte is neither off nor on names no command: its owner refuses it BAD_FIELD (R146, log 24). -/
inductive Decoded where
  | unknownKind
  | badLength
  | badService
  | request (i : Instr)
  deriving DecidableEq, Repr

/-- Reads the fields of a body whose length suits its kind (R174). -/
def decodeBody (kind : Byte) (body : List Byte) : Decoded :=
  match kind.toNat with
  | 0x01 => .request (.openTag (BitVec.ofNat 8 (fieldAt body 0 1)) (BitVec.ofNat 16 (fieldAt body 1 2))
      (BitVec.ofNat 32 (fieldAt body 3 4)) (BitVec.ofNat 8 (fieldAt body 7 1)) (BitVec.ofNat 64 (fieldAt body 8 8))
      (BitVec.ofNat 16 (fieldAt body 16 2)))
  | 0x02 => .request (.verify (BitVec.ofNat 16 (fieldAt body 0 2)) (BitVec.ofNat 64 (fieldAt body 2 8)))
  | 0x03 => .request (.sealTag (BitVec.ofNat 16 (fieldAt body 0 2)) (BitVec.ofNat 8 (fieldAt body 2 1))
      (BitVec.ofNat 32 (fieldAt body 3 4)) (BitVec.ofNat 16 (fieldAt body 7 2)))
  | 0x04 => .request (.close (BitVec.ofNat 16 (fieldAt body 0 2)))
  | 0x05 => .request (.query (BitVec.ofNat 16 (fieldAt body 0 2)))
  | 0x06 => .request (.prefetch (BitVec.ofNat 16 (fieldAt body 0 2)) (BitVec.ofNat 32 (fieldAt body 2 4))
      (BitVec.ofNat 8 (fieldAt body 6 1)))
  | 0x07 => .request (.collect (BitVec.ofNat 8 (fieldAt body 0 1)))
  | 0x08 => .request .status
  | 0x09 => .request (.stageBegin (BitVec.ofNat 16 (fieldAt body 0 2)) (BitVec.ofNat 32 (fieldAt body 2 4)))
  | 0x0A => .request (.stageChunk (BitVec.ofNat 16 (fieldAt body 0 2)) (body.drop 2))
  | 0x0B => .request (.stageCommit (BitVec.ofNat 32 (fieldAt body 0 4)))
  | 0x0C => .request .stageAbandon
  | 0x0D => .request (.keyRead (BitVec.ofNat 8 (fieldAt body 0 1)))
  | 0x0E => .request (.keyWithdraw (BitVec.ofNat 16 (fieldAt body 0 2)) (BitVec.ofNat 8 (fieldAt body 2 1))
      (BitVec.ofNat 8 (fieldAt body 3 1)))
  | 0x0F => .request (.rollover (BitVec.ofNat 16 (fieldAt body 0 2)) (BitVec.ofNat 8 (fieldAt body 2 1))
      (BitVec.ofNat 8 (fieldAt body 3 1)) (BitVec.ofNat 32 (fieldAt body 4 4)) (BitVec.ofNat 16 (fieldAt body 8 2))
      (BitVec.ofNat 16 (fieldAt body 10 2)) (BitVec.ofNat 16 (fieldAt body 12 2)))
  | 0x10 => .request (.rollback (BitVec.ofNat 16 (fieldAt body 0 2)))
  | 0x11 => .request (.purge (BitVec.ofNat 16 (fieldAt body 0 2)) (BitVec.ofNat 32 (fieldAt body 2 4))
      (BitVec.ofNat 8 (fieldAt body 6 1)))
  | 0x12 => .request (.time (BitVec.ofNat 48 (fieldAt body 0 6)))
  | 0x13 => .request (.lanes (BitVec.ofNat 8 (fieldAt body 0 1)) (BitVec.ofNat 8 (fieldAt body 1 1)))
  | 0x14 =>
    if fieldAt body 0 1 = 0 then .request .serviceOff else if fieldAt body 0 1 = 1 then .request .serviceOn else .badService
  | 0x15 => .request (.config (BitVec.ofNat 16 (fieldAt body 0 2)) (BitVec.ofNat 8 (fieldAt body 2 1))
      (BitVec.ofNat 8 (fieldAt body 3 1)) (BitVec.ofNat 8 (fieldAt body 4 1)) (BitVec.ofNat 8 (fieldAt body 5 1))
      (BitVec.ofNat 8 (fieldAt body 6 1)))
  | 0x16 => .request .selftest
  | 0x17 => .request .restart
  | _ => .unknownKind

/-- Checks 1 and 2 of R163, and the fields of the body (R174). -/
def decodeRequest (kind : Byte) (body : List Byte) : Decoded :=
  match requestBody kind with
  | none => .unknownKind
  | some (shortest, longest) =>
    if shortest ≤ body.length ∧ body.length ≤ longest then decodeBody kind body else .badLength

/-- The kind and the body of the frame that carries a request (R173, R174); none for a command that is no request. -/
def encodeRequest : Instr → Option (Byte × List Byte)
  | .openTag lane issuer serial generation nonce dwell =>
    some (0x01, toBytes 1 lane.toNat ++ toBytes 2 issuer.toNat ++ toBytes 4 serial.toNat ++ toBytes 1 generation.toNat
      ++ toBytes 8 nonce.toNat ++ toBytes 2 dwell.toNat)
  | .verify handle proof => some (0x02, toBytes 2 handle.toNat ++ toBytes 8 proof.toNat)
  | .sealTag handle vehicleClass charge sequence =>
    some (0x03, toBytes 2 handle.toNat ++ toBytes 1 vehicleClass.toNat ++ toBytes 4 charge.toNat ++ toBytes 2 sequence.toNat)
  | .close handle => some (0x04, toBytes 2 handle.toNat)
  | .query handle => some (0x05, toBytes 2 handle.toNat)
  | .prefetch issuer serial generation =>
    some (0x06, toBytes 2 issuer.toNat ++ toBytes 4 serial.toNat ++ toBytes 1 generation.toNat)
  | .collect count => some (0x07, toBytes 1 count.toNat)
  | .status => some (0x08, [])
  | .stageBegin declared imageId => some (0x09, toBytes 2 declared.toNat ++ toBytes 4 imageId.toNat)
  | .stageChunk offset bytes => some (0x0A, toBytes 2 offset.toNat ++ bytes)
  | .stageCommit crc => some (0x0B, toBytes 4 crc.toNat)
  | .stageAbandon => some (0x0C, [])
  | .keyRead index => some (0x0D, toBytes 1 index.toNat)
  | .keyWithdraw issuer generation roles =>
    some (0x0E, toBytes 2 issuer.toNat ++ toBytes 1 generation.toNat ++ toBytes 1 roles.toNat)
  | .rollover issuer a b start d1 d2 d3 =>
    some (0x0F, toBytes 2 issuer.toNat ++ toBytes 1 a.toNat ++ toBytes 1 b.toNat ++ toBytes 4 start.toNat
      ++ toBytes 2 d1.toNat ++ toBytes 2 d2.toNat ++ toBytes 2 d3.toNat)
  | .rollback issuer => some (0x10, toBytes 2 issuer.toNat)
  | .purge issuer base exponent => some (0x11, toBytes 2 issuer.toNat ++ toBytes 4 base.toNat ++ toBytes 1 exponent.toNat)
  | .time value => some (0x12, toBytes 6 value.toNat)
  | .lanes setMask clearMask => some (0x13, toBytes 1 setMask.toNat ++ toBytes 1 clearMask.toNat)
  | .serviceOff => some (0x14, [0])
  | .serviceOn => some (0x14, [1])
  | .config gantry quota margin hot cool faultCode =>
    some (0x15, toBytes 2 gantry.toNat ++ toBytes 1 quota.toNat ++ toBytes 1 margin.toNat ++ toBytes 1 hot.toNat
      ++ toBytes 1 cool.toNat ++ toBytes 1 faultCode.toNat)
  | .selftest => some (0x16, [])
  | .restart => some (0x17, [])
  | .frameReceived _ => none
  | .frameGapTimeout => none
  | .replyComplete => none
  | .laneTimeTick => none
  | .deadlineEvent _ => none
  | .lingerEnd _ => none
  | .windowEnd => none
  | .phaseDue _ => none
  | .prefetchExpiry _ => none
  | .thermalReading _ => none
  | .operationComplete _ => none
  | .selftestEnd _ _ => none
  | .powerOn => none
  | .supplyLoss => none
  | .resetNLow => none
  | .resetEnd _ _ => none
  | .zeroize => none
  | .byteReceived _ => none
  | .provisioning _ => none

end Sys2Proof
end

