-- ==== Sys2Proof/Config.lean ====
section
/-! DEFINITION. What a part fixes or the manual leaves free: opaque constants without a body, so that no proof can rest on
a value of theirs, and the known answer that two of them give. -/

namespace Sys2Proof.Config

/-- The block cipher under each key: "a fixed keyed permutation" that the manual does not name (00 Conventions, The cipher).
Log 7. -/
opaque cipher : Key → Equiv.Perm Block

/-- The n-th value that the Random Source supplies (R130): a free value. Log 8. -/
opaque challenge : Nat → Half

/-- The transport key that the factory installed (R18). Log 10. -/
opaque factoryTransportKey : Key

/-- What a unit applies where there is no key to apply: a derivation without a master key (R129), whose output is
discarded. Log 19. -/
opaque absentKey : Key

/-- The record index that a COMMIT_FAILED record would carry if the re-check of R32 failed, which R32 says it cannot: a
free value for each image id. Log 18. -/
opaque recheckIndex : BitVec 32 → Byte

/-- The test key that every self-test applies, held inside the part and not published (R123). Log 9. -/
opaque testKey : Key

/-- The stored test block of a self-test (R123). Log 9. -/
opaque testBlock : Block

/-- The stored expected output of a self-test (R123): the known answer, which is what the cipher gives for the test block
(log 9). -/
def testOutput : Block := cipher testKey testBlock

end Sys2Proof.Config
end

