-- ==== Sys2Proof/Machine/State.lean ====
section
/-! DEFINITION. The state of the LK40 as plain data, the reasons a step can stop, and the state after reset. -/

namespace Sys2Proof.Machine

/-! ### Key Directory (R1 to R20) -/

/-- The two key roles (R1). -/
inductive Role where
  | auth
  | seal
  deriving DecidableEq, Repr

/-- The state of a slot that is not EMPTY (R2). -/
inductive KeyState where
  | standby
  | active
  | draining
  deriving DecidableEq, Repr

/-- What a slot that is not EMPTY holds (R1). -/
structure MasterKey where
  state : KeyState
  issuer : Issuer
  generation : Generation
  role : Role
  notBefore : BitVec 32
  notAfter : BitVec 32
  key : Key
  checkValue : BitVec 32
  deriving DecidableEq, Repr

/-- A key slot (R1): EMPTY when nothing is held, so that an EMPTY slot has no field but the epoch and the bound count. -/
structure Slot where
  held : Option MasterKey
  epoch : Epoch
  bound : Nat
  deriving DecidableEq, Repr

/-- A slot as the factory leaves it and as zeroize leaves it (R1, R20). -/
def Slot.blank : Slot := ⟨none, 0, 0⟩

/-- The transport key and the check value stored with it (R18). -/
structure TransportKey where
  key : Key
  checkValue : BitVec 32
  deriving DecidableEq, Repr

/-! ### Key Set Stager (R21) -/

/-- An open load: the declared length, the image id and the bytes received, in offset order. The byte counter is the
number of those bytes. -/
structure Load where
  declared : Nat
  imageId : BitVec 32
  buffer : List Byte
  deriving DecidableEq, Repr

/-- The staging state; IDLE holds no load. -/
inductive Stager where
  | idle
  | receiving (load : Load)
  | committing (load : Load)
  deriving DecidableEq, Repr

/-! ### Rollover Scheduler (R38) -/

/-- A rollover record. -/
structure Rollover where
  issuer : Issuer
  a : Generation
  b : Generation
  aAuth : Nat
  aSeal : Nat
  bAuth : Nat
  bSeal : Nat
  p1 : Nat
  p2 : Nat
  p3 : Nat
  p4 : Nat
  reached : Nat
  deriving DecidableEq, Repr

/-! ### Derived Key Cache (R56) -/

/-- Why an entry is doomed (R65). -/
inductive Doom where
  | withdrawn
  | purged
  deriving DecidableEq, Repr

/-- A cache entry; its place is its position in the cache's list. -/
structure CacheEntry where
  issuer : Issuer
  serial : Serial
  generation : Generation
  role : Role
  key : Key
  sourceSlot : Nat
  sourceEpoch : Epoch
  pin : Option Handle
  doom : Option Doom
  deriving DecidableEq, Repr

/-! ### Transaction Table (R73) -/

/-- The states of a live context (R73). -/
inductive LiveState where
  | opening
  | awaitTag
  | verifying
  | authenticated
  | sealing
  deriving DecidableEq, Repr

/-- Failure reasons (R73). -/
inductive FailReason where
  | expired
  | authMismatch
  | keyWithdrawn
  | laneOff
  | serviceOff
  deriving DecidableEq, Repr

/-- The state of a context, with the fields that are present only in it (R73). -/
inductive ContextState where
  | live (state : LiveState)
  | sealed (stamp : Nat) (sealBytes : Half)
  | failed (reason : FailReason) (failedFrom : LiveState)
  deriving DecidableEq, Repr

/-- A context's reference to a slot and the install epoch it saw (R8). -/
structure Binding where
  slot : Nat
  epoch : Epoch
  deriving DecidableEq, Repr

/-- A context (R73). Its job status is computed from the Work Queue. -/
structure Context where
  handle : Handle
  lane : Byte
  issuer : Issuer
  serial : Serial
  generation : Generation
  nonce : Half
  challenge : Half
  auth : Binding
  sealKey : Binding
  sealGeneration : Generation
  deadline : Nat
  reserved : Nat
  authTaint : Bool
  sealTaint : Bool
  state : ContextState
  deriving DecidableEq, Repr

/-- One index of the table: its use count, and its context unless it is free (R74). -/
structure Place where
  useCount : Nat
  context : Option Context
  deriving DecidableEq, Repr

/-- A free index after a reset (R74). -/
def Place.fresh : Place := ⟨1023, none⟩

/-! ### Work Queue and Cipher Engine (R111 to R126) -/

/-- One block operation of a job (R114). -/
inductive Operation where
  /-- Derivation of the tag key of a role from a slot's master key at an epoch (R129). -/
  | derive (role : Role) (generation : Generation) (slot : Nat) (epoch : Epoch)
  /-- The reader proof (R131). -/
  | readerProof
  /-- The expected tag proof and its comparison (R132). -/
  | tagProof
  /-- The first seal block (R134). -/
  | sealFirst
  /-- The second seal block (R134). -/
  | sealSecond
  /-- The unwrap of an image record's key (R135). -/
  | unwrap (index : Nat)
  /-- The check of an image record's key (R135). -/
  | check (index : Nat)
  deriving DecidableEq, Repr

/-- The seal record, fixed in the event that takes the SEAL request (R82, R133). -/
structure SealRecord where
  serial : Serial
  issuer : Issuer
  authGeneration : Generation
  sealGeneration : Generation
  gantry : BitVec 16
  lane : Byte
  vehicleClass : Byte
  charge : BitVec 32
  sequence : BitVec 16
  stamp : Nat
  deriving DecidableEq, Repr

/-- What a job computes: its kind, its owner and its carried data (R113, R114). -/
inductive Work where
  | opening (handle : Handle) (issuer : Issuer) (serial : Serial) (nonce challenge : Half)
  | verifying (handle : Handle) (proof : Half)
  | sealing (handle : Handle) (record : SealRecord) (first : Option Block)
  | keyset (load : Load) (keys : List Key) (results : List Bool)
  | prefetch (issuer : Issuer) (serial : Serial)
  deriving DecidableEq, Repr

/-- A job of the Work Queue (R113). -/
structure Job where
  work : Work
  /-- The operations still to run; while the job is running, the first of them is the one in progress. -/
  operations : List Operation
  /-- The effective deadline of a LANE or KEYSET job; the placing time of a PREFETCH job. -/
  time : Nat
  sequence : Nat
  started : Bool
  running : Bool
  deriving DecidableEq, Repr

/-- A unit's health (R111). -/
inductive Health where
  | good
  | failed
  deriving DecidableEq, Repr

/-- A unit's placement (R111). -/
inductive Placement where
  | inService
  | parked
  deriving DecidableEq, Repr

/-- A unit's activity (R111). A RUNNING unit names its current job by the job's enqueue sequence, and holds the master key
that it read when it began a derivation (R129). The job is no longer in the Work Queue once it has been cancelled (R120). -/
inductive Activity where
  | free
  | running (sequence : Nat) (masterKey : Option Key)
  | testing
  deriving DecidableEq, Repr

/-- A unit of the Cipher Engine (R111). -/
structure CipherUnit where
  health : Health
  placement : Placement
  activity : Activity
  deriving DecidableEq, Repr

/-- The origin of a self-test (R123). -/
inductive TestOrigin where
  | startUp
  | request
  deriving DecidableEq, Repr

/-! ### Thermal Monitor (R152) -/

/-- Thermal states. -/
inductive ThermalState where
  | normal
  | throttled
  | suspended
  deriving DecidableEq, Repr

/-- The Thermal Monitor; its thresholds stand in the configuration. -/
structure Thermal where
  lastReading : Option Int
  hotCount : Nat
  limitCount : Nat
  state : ThermalState
  deriving DecidableEq, Repr

/-! ### Completion Queue (R166) -/

/-- What became of a rollover (R50). -/
inductive RolloverOutcome where
  | applied
  | rolledBack
  | abandoned
  deriving DecidableEq, Repr

/-- A completion record (R166, R176). -/
inductive CompletionRecord where
  | opened (handle : Handle) (lane : Byte) (challenge proof : Half)
  | verified (handle : Handle) (lane : Byte)
  | sealed (handle : Handle) (lane : Byte) (stamp : Nat) (sealGeneration : Generation) (sealBytes : Half)
  | failed (handle : Handle) (lane : Byte) (reason : FailReason) (failedFrom : LiveState)
  | committed (imageId : BitVec 32) (slots : List Nat)
  /-- The reason is KEY_CHECK, the only one (R31, R32). -/
  | commitFailed (imageId : BitVec 32) (index : Byte)
  | rolloverPhase (issuer : Issuer) (a b : Generation) (phase : Nat) (outcome : RolloverOutcome) (time : Nat)
  | selftestDone (origin : TestOrigin) (pass0 pass1 : Bool)
  | thermal (left new : ThermalState) (reading : Int)
  deriving DecidableEq, Repr

/-- The Completion Queue, oldest record first, and its overflow mark. -/
structure CompletionQueue where
  records : List CompletionRecord
  overflow : Bool
  deriving DecidableEq, Repr

/-! ### Lane Clock, Service Controller (R137, R144, R145) -/

/-- The Lane Clock. Lane time is absent while the UNSET mark is set. The time base counts real milliseconds (log 5). -/
structure LaneClock where
  time : Option Nat
  debt : Nat
  base : Nat
  deriving DecidableEq, Repr

/-- The configuration (R144). -/
structure Settings where
  gantry : BitVec 16
  quota : Nat
  margin : Nat
  hot : Nat
  cool : Nat
  faultCode : Nat
  deriving DecidableEq, Repr

/-- The configuration after a reset (R144). -/
def Settings.default : Settings := ⟨0, 12, 8, 95, 85, 1⟩

/-- Service states (R145). -/
inductive ServiceState where
  | starting
  | serviceOff
  | serviceOn
  | halted
  | zeroized
  deriving DecidableEq, Repr

/-- Whether the part has supply and is out of reset (R149). -/
inductive Power where
  | noSupply
  | inReset
  | running
  deriving DecidableEq, Repr

/-! ### Replies (R164, R174, R175) -/

/-- The refusal codes with their details (R175). A slot or record index that has no value is absent. -/
inductive Refuse where
  | unknownKind (kind : Byte)
  | badLength (length : Byte)
  | badField (offset : Byte) (lanes : Byte)
  | linkOverrun
  | notReady
  | halted
  | zeroized
  | notInService
  | serviceState
  | noTime
  | timeBackward (time : Nat)
  | laneOff
  | laneFull (live quota : Nat)
  | tableFull
  | backlog (depth : Nat)
  | overloaded (estimate : Nat)
  | thermal
  | duplicateTag (handle : Handle) (lane : Byte)
  | noKey (roles : Byte) (slot : Option Nat) (generation : Generation)
  | keyNotYet (role : Role) (slot : Nat) (generation : Generation)
  | keyRetired (role : Role) (slot : Nat) (generation : Generation)
  | keyWithdrawn (role : Role)
  | unknownHandle (handle : Handle)
  | wrongState (state : ContextState)
  | txnFailed (reason : FailReason) (failedFrom : LiveState)
  | busy
  | stagingIdle
  | outOfSequence (counter : Nat)
  | overlength (declared counter : Nat)
  | incomplete (counter declared : Nat)
  | imageCrc (crc : BitVec 32)
  | badImage (record : Option Nat)
  | conflict (record : Nat) (slot : Option Nat)
  | directoryFull (count empty : Nat)
  | rolloverConflict (a b : Generation) (reached : Nat)
  | rolloverFull
  | noRollover
  | slotState (slot : Nat) (state : KeyState) (generation : Generation) (role : Role)
  deriving DecidableEq, Repr

/-- A context's job status (R73). -/
inductive JobStatus where
  | none
  | waiting
  | running
  deriving DecidableEq, Repr

/-- What a TIME did (R139). -/
inductive TimeAction where
  | set
  | step
  | slew
  deriving DecidableEq, Repr

/-- The outcome of a PREFETCH (R68). -/
inductive PrefetchOutcome where
  | cached
  | noKey (role : Role) (code : Refuse)
  | dropped
  | queued (operations : Nat)
  deriving DecidableEq, Repr

/-- The kinds of activity that STATUS reports (R171). -/
inductive ActivityKind where
  | free
  | running
  | testing
  deriving DecidableEq, Repr

/-- The staging states that STATUS reports (R171). -/
inductive StagingKind where
  | idle
  | receiving
  | committing
  deriving DecidableEq, Repr

/-- The fields of a STATUS reply (R170). -/
structure StatusReport where
  service : ServiceState
  time : Option Nat
  debt : Nat
  mask : Byte
  health0 : Health
  placement0 : Placement
  activity0 : ActivityKind
  health1 : Health
  placement1 : Placement
  activity1 : ActivityKind
  thermalState : ThermalState
  lastReading : Option Int
  hotCount : Nat
  contexts : Nat
  workDepth : Nat
  queueDepth : Nat
  overflow : Bool
  staging : StagingKind
  counter : Nat
  slots : Nat
  rollovers : Nat
  checkValue : Option (BitVec 32)
  deriving DecidableEq, Repr

/-- The outcome of a request: REFUSE, or ACCEPT with the fields of the request's reply (R174). -/
inductive Answer where
  | refuse (code : Refuse)
  | opened (handle : Handle) (deadline estimate slack : Nat) (authHit sealHit : Bool)
  | verifying (handle : Handle) (deadline : Nat)
  | sealing (handle : Handle) (stamp operations : Nat)
  | closed (state : ContextState) (authTaint sealTaint cancelled : Bool)
  | context (fields : Context) (job : JobStatus)
  | prefetched (outcome : PrefetchOutcome)
  | collected (records : List CompletionRecord) (remaining : Nat) (overflow : Bool)
  | status (report : StatusReport)
  | stageBegun (count : Nat) (discarded : Bool)
  | chunkTaken (counter : Nat)
  | commitStarted (count operations : Nat)
  | abandoned (counter : Nat)
  | keyAbsent (index : Byte)
  | keyPresent (index : Byte) (state : KeyState) (issuer : Issuer) (generation : Generation) (role : Role)
      (notBefore notAfter checkValue : BitVec 32) (epoch : Epoch) (bound : Nat)
  | withdrawn (slots : List Nat) (tainted : Nat)
  | rolloverPlanned (p1 p2 p3 p4 aAuth aSeal bAuth bSeal : Nat)
  | rolledBack (a b : Generation) (reached : Nat)
  | purged (exponent first removed doomed : Nat)
  | timeTaken (action : TimeAction) (time debt : Nat)
  | lanes (mask : Byte)
  | service (state : ServiceState) (failed : Nat)
  | configured (settings : Settings)
  | selftestBegun
  | restarting
  deriving DecidableEq, Repr

/-! ### Lane Link (R158 to R165) -/

/-- An entry of the answer list (R161). -/
inductive Entry where
  | request (kind tag : Byte) (body : List Byte)
  | overrun (kind tag : Byte)
  deriving DecidableEq, Repr

/-- The receiver (R160): hunting, past the sync byte, or past the length byte with the bytes received since. -/
inductive Receiver where
  | hunting
  | atLength
  | inFrame (length : Byte) (received : List Byte)
  deriving DecidableEq, Repr

/-- How far the answering of the head entry has come (R162): none is being answered; its request has passed the Lane Link's
checks and is handed to its owner; its reply, with its tag, is being sent. -/
inductive LinkStage where
  | idle
  | handed
  | sending (tag : Byte) (answer : Answer)
  deriving DecidableEq, Repr

/-- The Lane Link. -/
structure Link where
  receiver : Receiver
  entries : List Entry
  stage : LinkStage
  deriving DecidableEq, Repr

/-- The Lane Link after a reset (R165). -/
def Link.quiet : Link := ⟨.hunting, [], .idle⟩

/-! ### The whole state -/

/-- The state of the LK40. -/
structure State where
  /-- Supply and reset (R149). -/
  power : Power
  /-- RATE1 and RATE0 as read at the end of the last reset; they fix the line rate (R158). -/
  straps : Bool × Bool
  /-- The Lane Link. -/
  link : Link
  /-- The service state (R145). -/
  service : ServiceState
  /-- The lane mask: the bit of weight 2^k enables lane k (R143, R171). -/
  mask : Byte
  /-- The configuration (R144). -/
  settings : Settings
  /-- The Lane Clock (R137). -/
  clock : LaneClock
  /-- The 64 key slots, by index (R1). -/
  slots : List Slot
  /-- The transport key, unless erased (R18). -/
  transport : Option TransportKey
  /-- The ZEROIZED mark (R19). -/
  zeroizedMark : Bool
  /-- The Key Set Stager (R21). -/
  stager : Stager
  /-- The rollover records, in ascending issuer code (R38). -/
  rollovers : List Rollover
  /-- The cache entries, most recent first (R56). -/
  cache : List CacheEntry
  /-- The 48 indices of the Transaction Table (R73). -/
  places : List Place
  /-- Unit U0 (R111). -/
  u0 : CipherUnit
  /-- Unit U1 (R111). -/
  u1 : CipherUnit
  /-- The engine's suspended mark (R111). -/
  suspended : Bool
  /-- The self-test in progress (R123). -/
  test : Option TestOrigin
  /-- The Work Queue, waiting and running jobs together, in order of placing (R113). -/
  jobs : List Job
  /-- The next enqueue sequence (R113). -/
  nextSequence : Nat
  /-- The Thermal Monitor (R152). -/
  thermal : Thermal
  /-- The Completion Queue (R166). -/
  queue : CompletionQueue
  /-- A RESTART has been accepted and its reply is not yet sent in full (R149). -/
  restarting : Bool
  /-- The model's own: how many challenges have been drawn (R130, log 8). -/
  draws : Nat
  /-- The model's own: the outcome of the most recent request event (R162, log 1). -/
  answer : Option Answer
  /-- The model's own: the commands that wait, first in first out. -/
  pending : List Instr
  deriving DecidableEq, Repr

/-! One setter for each field, so that a law names the field that changes (Laws/State.lean). -/

/-- Replaces the field power. -/
def State.setPower (s : State) (v : Power) : State := { s with power := v }

/-- Replaces the field straps. -/
def State.setStraps (s : State) (v : Bool × Bool) : State := { s with straps := v }

/-- Replaces the field link. -/
def State.setLink (s : State) (v : Link) : State := { s with link := v }

/-- Replaces the field service. -/
def State.setService (s : State) (v : ServiceState) : State := { s with service := v }

/-- Replaces the field mask. -/
def State.setMask (s : State) (v : Byte) : State := { s with mask := v }

/-- Replaces the field settings. -/
def State.setSettings (s : State) (v : Settings) : State := { s with settings := v }

/-- Replaces the field clock. -/
def State.setClock (s : State) (v : LaneClock) : State := { s with clock := v }

/-- Replaces the field slots. -/
def State.setSlots (s : State) (v : List Slot) : State := { s with slots := v }

/-- Replaces the field transport. -/
def State.setTransport (s : State) (v : Option TransportKey) : State := { s with transport := v }

/-- Replaces the field zeroizedMark. -/
def State.setZeroizedMark (s : State) (v : Bool) : State := { s with zeroizedMark := v }

/-- Replaces the field stager. -/
def State.setStager (s : State) (v : Stager) : State := { s with stager := v }

/-- Replaces the field rollovers. -/
def State.setRollovers (s : State) (v : List Rollover) : State := { s with rollovers := v }

/-- Replaces the field cache. -/
def State.setCache (s : State) (v : List CacheEntry) : State := { s with cache := v }

/-- Replaces the field places. -/
def State.setPlaces (s : State) (v : List Place) : State := { s with places := v }

/-- Replaces the field u0. -/
def State.setU0 (s : State) (v : CipherUnit) : State := { s with u0 := v }

/-- Replaces the field u1. -/
def State.setU1 (s : State) (v : CipherUnit) : State := { s with u1 := v }

/-- Replaces the field suspended. -/
def State.setSuspended (s : State) (v : Bool) : State := { s with suspended := v }

/-- Replaces the field test. -/
def State.setTest (s : State) (v : Option TestOrigin) : State := { s with test := v }

/-- Replaces the field jobs. -/
def State.setJobs (s : State) (v : List Job) : State := { s with jobs := v }

/-- Replaces the field nextSequence. -/
def State.setNextSequence (s : State) (v : Nat) : State := { s with nextSequence := v }

/-- Replaces the field thermal. -/
def State.setThermal (s : State) (v : Thermal) : State := { s with thermal := v }

/-- Replaces the field queue. -/
def State.setQueue (s : State) (v : CompletionQueue) : State := { s with queue := v }

/-- Replaces the field restarting. -/
def State.setRestarting (s : State) (v : Bool) : State := { s with restarting := v }

/-- Replaces the field draws. -/
def State.setDraws (s : State) (v : Nat) : State := { s with draws := v }

/-- Replaces the field answer. -/
def State.setAnswer (s : State) (v : Option Answer) : State := { s with answer := v }

/-- Replaces the field pending. -/
def State.setPending (s : State) (v : List Instr) : State := { s with pending := v }

/-! ### Reset -/

/-- A unit after a reset, before the start-up test begins (R126). -/
def CipherUnit.fresh : CipherUnit := ⟨.good, .inService, .free⟩

/-- The first 4 bytes of E(key, zero block) for the transport key that the factory installed (R18). -/
def factoryTransport : TransportKey :=
  ⟨Config.factoryTransportKey, (Config.cipher Config.factoryTransportKey 0).extractLsb' 96 32⟩

/-- The machine right after reset: a part that leaves the factory (R1, R18, R38), at the end of a power-on reset (R148),
with its start-up self-test begun (R124). Logs 10 and 11 name the values that the manual does not give. -/
def State.reset : State where
  power := .running
  straps := (false, false)
  link := Link.quiet
  service := .starting
  mask := 0
  settings := Settings.default
  clock := ⟨none, 0, 0⟩
  slots := List.replicate 64 Slot.blank
  transport := some factoryTransport
  zeroizedMark := false
  stager := .idle
  rollovers := []
  cache := []
  places := List.replicate 48 Place.fresh
  u0 := ⟨.good, .inService, .testing⟩
  u1 := ⟨.good, .inService, .testing⟩
  suspended := false
  test := some .startUp
  jobs := []
  nextSequence := 0
  thermal := ⟨none, 0, 0, .normal⟩
  queue := ⟨[], false⟩
  restarting := false
  draws := 0
  answer := none
  pending := []

/-! ### The reasons a step can stop -/

/-- Faults: none. The manual gives the part no fault: every outcome is a reply, a completion record, a change of state or
silence, so nothing raises one (log 13). -/
inductive Fault : Type
  deriving DecidableEq, Repr

/-- Refusals. -/
inductive Refusal where
  /-- Raised only by an arm of exec whose command has no meaning yet. Safe: the machine stops. -/
  | notModelled (mnemonic : String)
  deriving DecidableEq, Repr

end Sys2Proof.Machine
end

