-- ==== Sys2Proof/Machine/Crypto.lean ====
section
/-! DEFINITION. The cipher inputs and the parts kept of its outputs (08, R178). -/

namespace Sys2Proof.Machine

/-- E(k, x) (R127). -/
def encipher (k : Key) (x : Block) : Block := Config.cipher k x

/-- E⁻¹(k, x) (R127). -/
def decipher (k : Key) (x : Block) : Block := (Config.cipher k).symm x

/-- Bytes 0 to 7 of a block. -/
def firstHalf (x : Block) : Half := x.extractLsb' 64 64

/-- Bytes 8 to 15 of a block. -/
def lastHalf (x : Block) : Half := x.extractLsb' 0 64

/-- Bytes 0 to 3 of a block: a check value (R135). -/
def checkBytes (x : Block) : BitVec 32 := x.extractLsb' 96 32

/-- The check value of a key (R18, R135). -/
def checkValueOf (k : Key) : BitVec 32 := checkBytes (encipher k 0)

/-- The role code (R171). -/
def roleCode : Role → Byte
  | .auth => 1
  | .seal => 2

/-- The first half of the diversification block (R128). -/
def diversifier (serial : Serial) (issuer : Issuer) (generation : Generation) (role : Role) : Half :=
  serial ++ issuer ++ generation ++ roleCode role

/-- The diversification block D (R128). -/
def diversification (serial : Serial) (issuer : Issuer) (generation : Generation) (role : Role) : Block :=
  diversifier serial issuer generation role ++ ~~~(diversifier serial issuer generation role)

/-- The tag key that a master key gives (R129). -/
def tagKey (master : Key) (serial : Serial) (issuer : Issuer) (generation : Generation) (role : Role) : Key :=
  encipher master (diversification serial issuer generation role)

/-- The reader proof (R131). -/
def readerProofOf (k : Key) (nonce challenge : Half) : Half :=
  firstHalf (encipher k (nonce ++ challenge))

/-- The expected tag proof (R132). -/
def tagProofOf (k : Key) (nonce challenge : Half) : Half :=
  lastHalf (encipher k (challenge ++ nonce))

/-- The first block of a seal record (R133). -/
def sealBlock1 (r : SealRecord) : Block :=
  r.serial ++ r.issuer ++ r.authGeneration ++ r.sealGeneration ++ r.gantry ++ r.lane ++ r.vehicleClass ++ r.charge

/-- The second block of a seal record (R133). -/
def sealBlock2 (r : SealRecord) : Block :=
  r.sequence ++ BitVec.ofNat 48 r.stamp ++ 0#64

end Sys2Proof.Machine
end

