-- ==== Sys2Proof/Machine/Flags.lean ====
section
/-! DEFINITION. What is computed from the state and held nowhere: the output pins, the units serving, job status, counts
and marks, and the fields of a STATUS reply. -/

namespace Sys2Proof.Machine

/-- Lane time; 0 while UNSET (R137). -/
def State.nowMs (s : State) : Nat := s.clock.time.getD 0

/-- The present lane second (R137). -/
def State.nowSeconds (s : State) : Nat := s.nowMs / 1000

/-- ATTN (R167): low in reset. -/
def State.attn (s : State) : Bool := decide (s.power = .running) && !s.queue.records.isEmpty

/-- READY (R145, R149): low in reset. -/
def State.ready (s : State) : Bool := decide (s.power = .running) && decide (s.service = .serviceOn)

/-- The line rate in baud that the straps give (R158). -/
def State.baud (s : State) : Nat :=
  match s.straps with
  | (false, false) => 460800
  | (false, true) => 921600
  | (true, false) => 1843200
  | (true, true) => 3686400

/-- Whether a unit serves (R111). -/
def CipherUnit.serves (u : CipherUnit) (suspended : Bool) : Bool :=
  decide (u.health = .good) && decide (u.placement = .inService) && !suspended

/-- A unit by its name. -/
def State.unit (s : State) : UnitName → CipherUnit
  | .u0 => s.u0
  | .u1 => s.u1

/-- Replaces a unit by its name. -/
def State.setUnit (s : State) : UnitName → CipherUnit → State
  | .u0, v => s.setU0 v
  | .u1, v => s.setU1 v

/-- The number of units serving, n of R99. -/
def State.unitsServing (s : State) : Nat :=
  (s.u0.serves s.suspended).toNat + (s.u1.serves s.suspended).toNat

/-- Whether a slot is EMPTY (R1). -/
def Slot.isEmpty (x : Slot) : Bool := x.held.isNone

/-- The number of EMPTY slots (R29). -/
def emptySlots (slots : List Slot) : Nat := slots.countP Slot.isEmpty

/-- The number of slots in use (R170). -/
def usedSlots (slots : List Slot) : Nat := slots.countP fun x => !x.isEmpty

/-- What a slot holds, by index. -/
def heldAt (slots : List Slot) (i : Nat) : Option MasterKey := (slots[i]?).bind (·.held)

/-- The context at an index, unless it is free (R73). -/
def State.contextAt (s : State) (i : Nat) : Option Context := (s.places[i]?).bind (·.context)

/-- The contexts of the table in ascending index. -/
def State.contexts (s : State) : List Context := s.places.filterMap (·.context)

/-- Whether a context is live (R73). -/
def Context.isLive (c : Context) : Bool :=
  match c.state with
  | .live _ => true
  | .sealed _ _ => false
  | .failed _ _ => false

/-- Whether a context is FAILED (R73). -/
def Context.isFailed (c : Context) : Bool :=
  match c.state with
  | .failed _ _ => true
  | .live _ => false
  | .sealed _ _ => false

/-- The live count of a lane (R76). -/
def State.liveCount (s : State) (lane : Byte) : Nat :=
  s.contexts.countP fun c => c.isLive && decide (c.lane = lane)

/-- The owning handle of a job, for a LANE job (R113). -/
def Work.owner : Work → Option Handle
  | .opening h _ _ _ _ => some h
  | .verifying h _ => some h
  | .sealing h _ _ => some h
  | .keyset _ _ _ => none
  | .prefetch _ _ => none

/-- Whether a job is of class PREFETCH (R113). -/
def Work.isPrefetch : Work → Bool
  | .prefetch _ _ => true
  | .opening _ _ _ _ _ => false
  | .verifying _ _ => false
  | .sealing _ _ _ => false
  | .keyset _ _ _ => false

/-- Whether a job is of class KEYSET (R113). -/
def Work.isKeyset : Work → Bool
  | .keyset _ _ _ => true
  | .opening _ _ _ _ _ => false
  | .verifying _ _ => false
  | .sealing _ _ _ => false
  | .prefetch _ _ => false

/-- The role that a job consumes (R12). -/
def Work.consumes : Work → Option Role
  | .opening _ _ _ _ _ => some .auth
  | .verifying _ _ => some .auth
  | .sealing _ _ _ => some .seal
  | .keyset _ _ _ => none
  | .prefetch _ _ => none

/-- The job of a context on the Work Queue (R115). -/
def jobOf (jobs : List Job) (h : Handle) : Option Job := jobs.find? fun j => decide (j.work.owner = some h)

/-- A context's job status (R73). -/
def jobStatusOf (jobs : List Job) (h : Handle) : JobStatus :=
  match jobOf jobs h with
  | none => .none
  | some j => if j.running then .running else .waiting

/-- The number of prefetch jobs, waiting or running (R68). -/
def prefetchJobs (jobs : List Job) : Nat := jobs.countP (·.work.isPrefetch)

/-- The operations of the keyset job that count in W_ahead of a deadline (R103, R104). -/
def keysetAhead (jobs : List Job) (deadline : Nat) : Nat :=
  ((jobs.filter fun j => j.work.isKeyset && decide (j.time ≤ deadline)).map (·.operations.length)).sum

/-- The reserved operations that count in W_ahead of a deadline (R103). -/
def contextsAhead (contexts : List Context) (deadline : Nat) : Nat :=
  ((contexts.filter fun c => !c.isFailed && decide (c.deadline ≤ deadline)).map (·.reserved)).sum

/-- Whether a unit is FREE. -/
def CipherUnit.isFree (u : CipherUnit) : Bool :=
  match u.activity with
  | .free => true
  | .running _ _ => false
  | .testing => false

/-- A unit's activity as STATUS reports it (R170). -/
def CipherUnit.activityKind (u : CipherUnit) : ActivityKind :=
  match u.activity with
  | .free => .free
  | .running _ _ => .running
  | .testing => .testing

/-- The staging state as STATUS reports it (R170). -/
def Stager.kind : Stager → StagingKind
  | .idle => .idle
  | .receiving _ => .receiving
  | .committing _ => .committing

/-- The byte counter (R21). -/
def Stager.counter : Stager → Nat
  | .idle => 0
  | .receiving l => l.buffer.length
  | .committing l => l.buffer.length

/-- The fields of a STATUS reply as they stand (R170): what the Lane Link reads of the other blocks in the event in which it
begins an entry. -/
def State.report (s : State) : StatusReport where
  service := s.service
  time := s.clock.time
  debt := if s.clock.time.isSome then s.clock.debt else 0
  mask := s.mask
  health0 := s.u0.health
  placement0 := s.u0.placement
  activity0 := s.u0.activityKind
  health1 := s.u1.health
  placement1 := s.u1.placement
  activity1 := s.u1.activityKind
  thermalState := s.thermal.state
  lastReading := s.thermal.lastReading
  hotCount := s.thermal.hotCount
  contexts := s.contexts.length
  workDepth := s.jobs.length
  queueDepth := s.queue.records.length
  overflow := s.queue.overflow
  staging := s.stager.kind
  counter := s.stager.counter
  slots := usedSlots s.slots
  rollovers := s.rollovers.length
  checkValue := if s.service = .zeroized then none else s.transport.map (·.checkValue)

end Sys2Proof.Machine
end

