-- ==== Sys2Proof/Machine/Operands.lean ====
section
/-! DEFINITION. The operands of the commands: clamps, field checks, the resolution of handles, slots and cache entries, and
the records of a key set image. -/

namespace Sys2Proof.Machine

/-- An issuer code is 1 to 65534 (R1). -/
def issuerValid (issuer : Issuer) : Bool := issuer != 0 && issuer != 0xFFFF

/-- A number clamped to a range. -/
def clamp (low high x : Nat) : Nat := if x < low then low else if high < x then high else x

/-- The dwell B as clamped (R76, R98). -/
def dwellTaken (dwell : BitVec 16) : Nat := clamp 5 500 dwell.toNat

/-- The configuration as taken (R144). -/
def settingsTaken (gantry : BitVec 16) (quota margin hot cool faultCode : Byte) : Settings where
  gantry := gantry
  quota := clamp 1 48 quota.toNat
  margin := clamp 0 100 margin.toNat
  hot := clamp 60 110 hot.toNat
  cool := clamp 50 (clamp 60 110 hot.toNat - 5) cool.toNat
  faultCode := clamp 0 3 faultCode.toNat

/-- The fault count that a code means (R144). -/
def Settings.faultCount (x : Settings) : Nat :=
  if x.faultCode = 0 then 1 else if x.faultCode = 1 then 2 else if x.faultCode = 2 then 4 else 6

/-- The count of a COLLECT as taken (R168). -/
def collectTaken (count : Byte) : Nat := clamp 1 7 count.toNat

/-- The exponent of a PURGE as taken (R66). -/
def exponentTaken (exponent : Byte) : Nat := clamp 0 32 exponent.toNat

/-- The die temperature as read (R153). -/
def readingTaken (celsius : Int) : Int := if celsius < -40 then -40 else if 125 < celsius then 125 else celsius

/-- Whether a lane is enabled in a mask (R143, R171). -/
def laneEnabled (mask lane : Byte) : Bool := mask.getLsbD lane.toNat

/-- Resolves a handle to an index and its context (R74). -/
def State.resolveHandle (s : State) (h : Handle) : Option (Nat × Context) :=
  if h.toNat % 64 < 48 then
    match s.places[h.toNat % 64]? with
    | some p =>
      match p.context with
      | some c => if p.useCount = h.toNat / 64 then some (h.toNat % 64, c) else none
      | none => none
    | none => none
  else none

/-- Whether a slot is the slot of a triple (R1). -/
def Slot.isFor (issuer : Issuer) (generation : Generation) (role : Role) (x : Slot) : Bool :=
  match x.held with
  | some k => decide (k.issuer = issuer) && decide (k.generation = generation) && decide (k.role = role)
  | none => false

/-- The slot of (issuer, generation, role), or no slot (R1). -/
def findSlot (slots : List Slot) (issuer : Issuer) (generation : Generation) (role : Role) : Option Nat :=
  slots.findIdx? (Slot.isFor issuer generation role)

/-- Whether a slot is an ACTIVE SEAL slot of an issuer (R2). -/
def Slot.isActiveSeal (issuer : Issuer) (x : Slot) : Bool :=
  match x.held with
  | some k => decide (k.issuer = issuer) && decide (k.role = .seal) && decide (k.state = .active)
  | none => false

/-- The issuer's ACTIVE SEAL slot (R2, R7). -/
def activeSeal (slots : List Slot) (issuer : Issuer) : Option Nat :=
  slots.findIdx? (Slot.isActiveSeal issuer)

/-- The AUTH resolution of an OPEN or PREFETCH (R6). -/
def resolveAuth (slots : List Slot) (issuer : Issuer) (generation : Generation) (second : Nat) : Except Refuse Binding :=
  match findSlot slots issuer generation .auth with
  | none => .error (.noKey 1 none generation)
  | some i =>
    match slots[i]? with
    | some ⟨some k, epoch, _⟩ =>
      match k.state with
      | .standby => .error (.keyNotYet .auth i k.generation)
      | .draining => .error (.keyRetired .auth i k.generation)
      | .active =>
        if second < k.notBefore.toNat then .error (.keyNotYet .auth i k.generation)
        else if k.notAfter.toNat ≤ second then .error (.keyRetired .auth i k.generation)
        else .ok ⟨i, epoch⟩
    | _ => .error (.noKey 1 none generation)

/-- The SEAL resolution of an OPEN or PREFETCH (R7): the binding and the slot's generation. The generation given is the
request's, which the detail of NO_KEY names when there is no slot (R175). -/
def resolveSeal (slots : List Slot) (issuer : Issuer) (generation : Generation) (second : Nat) :
    Except Refuse (Binding × Generation) :=
  match activeSeal slots issuer with
  | none => .error (.noKey 2 none generation)
  | some i =>
    match slots[i]? with
    | some ⟨some k, epoch, _⟩ =>
      if second < k.notBefore.toNat then .error (.keyNotYet .seal i k.generation)
      else if k.notAfter.toNat ≤ second then .error (.noKey 2 (some i) k.generation)
      else .ok (⟨i, epoch⟩, k.generation)
    | _ => .error (.noKey 2 none generation)

/-- Whether an entry is the live entry of a quadruple (R56, R59). -/
def CacheEntry.isLiveFor (issuer : Issuer) (serial : Serial) (generation : Generation) (role : Role) (e : CacheEntry) :
    Bool :=
  decide (e.issuer = issuer) && decide (e.serial = serial) && decide (e.generation = generation) && decide (e.role = role)
    && e.doom.isNone

/-- Whether a lookup of a quadruple hits (R59). -/
def cacheHit (cache : List CacheEntry) (issuer : Issuer) (serial : Serial) (generation : Generation) (role : Role) : Bool :=
  cache.any (CacheEntry.isLiveFor issuer serial generation role)

/-- Whether an entry is pinned by a context for a role (R63). -/
def CacheEntry.isPinnedBy (h : Handle) (role : Role) (e : CacheEntry) : Bool :=
  decide (e.pin = some h) && decide (e.role = role)

/-- The key of the entry that a context pins for a role (R60). A job finds its pin whenever it runs (R75). -/
def pinnedKey (cache : List CacheEntry) (h : Handle) (role : Role) : Key :=
  match cache.find? (CacheEntry.isPinnedBy h role) with
  | some e => e.key
  | none => Config.absentKey

/-- Whether a serial lies in the aligned range of a base and an exponent (R66). -/
def inRange (base : Serial) (exponent : Nat) (serial : Serial) : Bool :=
  decide (serial.toNat / 2 ^ exponent = base.toNat / 2 ^ exponent)

/-- The first serial of that range (R66). -/
def rangeFirst (base : Serial) (exponent : Nat) : Nat := base.toNat / 2 ^ exponent * 2 ^ exponent

/-! ### Key set images (R22, R177) -/

/-- A record of a key set image, as it stands in the image: the role and the initial state are numbers still to be
checked (R27). -/
structure ImageRecord where
  issuer : Issuer
  generation : Generation
  role : Nat
  initial : Nat
  notBefore : BitVec 32
  notAfter : BitVec 32
  wrapped : Block
  checkValue : BitVec 32
  deriving DecidableEq, Repr

/-- The number of records that a length implies (R22). -/
def recordCount (length : Nat) : Nat := (length - 8) / 32

/-- Whether a length is that of an image of 1 to 24 records (R22, R23). -/
def imageLength (length : Nat) : Bool :=
  decide (length = 8 + 32 * recordCount length) && decide (1 ≤ recordCount length) && decide (recordCount length ≤ 24)

/-- Record k of an image (R177). -/
def imageRecord (image : List Byte) (k : Nat) : ImageRecord where
  issuer := BitVec.ofNat 16 (fieldAt image (8 + 32 * k) 2)
  generation := BitVec.ofNat 8 (fieldAt image (10 + 32 * k) 1)
  role := fieldAt image (11 + 32 * k) 1 % 16
  initial := fieldAt image (11 + 32 * k) 1 / 16
  notBefore := BitVec.ofNat 32 (fieldAt image (12 + 32 * k) 4)
  notAfter := BitVec.ofNat 32 (fieldAt image (16 + 32 * k) 4)
  wrapped := BitVec.ofNat 128 (fieldAt image (20 + 32 * k) 16)
  checkValue := BitVec.ofNat 32 (fieldAt image (36 + 32 * k) 4)

/-- The records of a load, in image order. -/
def Load.records (l : Load) : List ImageRecord :=
  (List.range (recordCount l.declared)).map (imageRecord l.buffer)

/-- The role that a record's number means. -/
def ImageRecord.roleOf (r : ImageRecord) : Role := if r.role = 1 then .auth else .seal

/-- The state that a record's slot takes at install (R22, R33). -/
def ImageRecord.stateOf (r : ImageRecord) : KeyState := if r.initial = 1 then .active else .standby

/-- Whether a record is an initial-ACTIVE SEAL record (R22). -/
def ImageRecord.isActiveSeal (r : ImageRecord) : Bool := decide (r.roleOf = .seal) && decide (r.stateOf = .active)

end Sys2Proof.Machine
end

