-- ==== Sys2Proof/Machine/Formats.lean ====
section
/-! DEFINITION. The bytes that the part sends: codes (R171), reply bodies (R174), REFUSE bodies (R175), completion records
(R176) and reply frames (R159, R173). -/

namespace Sys2Proof.Machine

/-! ### Codes (R171) -/

/-- Service state codes. -/
def serviceCode : ServiceState → Byte
  | .starting => 0
  | .serviceOff => 1
  | .serviceOn => 2
  | .halted => 3
  | .zeroized => 4

/-- Context state codes of the live states. -/
def liveCode : LiveState → Byte
  | .opening => 1
  | .awaitTag => 2
  | .verifying => 3
  | .authenticated => 4
  | .sealing => 5

/-- Context state codes. -/
def contextCode : ContextState → Byte
  | .live l => liveCode l
  | .sealed _ _ => 6
  | .failed _ _ => 7

/-- Failure reason codes. -/
def reasonCode : FailReason → Byte
  | .expired => 1
  | .authMismatch => 2
  | .keyWithdrawn => 3
  | .laneOff => 4
  | .serviceOff => 5

/-- Job status codes. -/
def jobCode : JobStatus → Byte
  | .none => 0
  | .waiting => 1
  | .running => 2

/-- Slot state codes; EMPTY is 0. -/
def keyStateCode : KeyState → Byte
  | .standby => 1
  | .active => 2
  | .draining => 3

/-- A set of roles as a byte: taint flags and hit flags. -/
def roleSetCode (auth sealed : Bool) : Byte := (if auth then 1 else 0) + (if sealed then 2 else 0)

/-- A mark as a byte. -/
def markCode (b : Bool) : Byte := if b then 1 else 0

/-- Staging state codes. -/
def stagingCode : StagingKind → Byte
  | .idle => 0
  | .receiving => 1
  | .committing => 2

/-- Thermal state codes. -/
def thermalCode : ThermalState → Byte
  | .normal => 0
  | .throttled => 1
  | .suspended => 2

/-- Unit health codes. -/
def healthCode : Health → Byte
  | .good => 0
  | .failed => 1

/-- Unit placement codes. -/
def placementCode : Placement → Byte
  | .inService => 0
  | .parked => 1

/-- Unit activity codes. -/
def activityCode : ActivityKind → Byte
  | .free => 0
  | .running => 1
  | .testing => 2

/-- TIME action codes. -/
def actionCode : TimeAction → Byte
  | .set => 1
  | .step => 2
  | .slew => 3

/-- Rollover outcome codes. -/
def outcomeCode : RolloverOutcome → Byte
  | .applied => 1
  | .rolledBack => 2
  | .abandoned => 3

/-- Self-test origin codes. -/
def originCode : TestOrigin → Byte
  | .startUp => 1
  | .request => 2

/-- Self-test result codes: PASS 0, FAIL 1. -/
def resultCode (pass : Bool) : Byte := if pass then 0 else 1

/-- A temperature as a two's-complement byte. -/
def celsiusCode (t : Int) : Byte := BitVec.ofInt 8 t

/-- The bytes of a bit vector of n bytes. -/
def wordBytes {w : Nat} (n : Nat) (v : BitVec w) : List Byte := toBytes n v.toNat

/-- A slot or record index; FF hex when there is none (R175). -/
def indexByte : Option Nat → Byte
  | some i => BitVec.ofNat 8 i
  | none => 0xFF

/-- Fills some bytes with zeros to a length (R172). -/
def padTo (n : Nat) (bytes : List Byte) : List Byte := bytes ++ List.replicate (n - bytes.length) 0

/-! ### REFUSE bodies (R175) -/

/-- The value of a refusal code. -/
def Refuse.code : Refuse → Byte
  | .unknownKind _ => 0x01
  | .badLength _ => 0x02
  | .badField _ _ => 0x03
  | .linkOverrun => 0x04
  | .notReady => 0x05
  | .halted => 0x06
  | .zeroized => 0x07
  | .notInService => 0x08
  | .serviceState => 0x09
  | .noTime => 0x0A
  | .timeBackward _ => 0x0B
  | .laneOff => 0x0C
  | .laneFull _ _ => 0x0D
  | .tableFull => 0x0E
  | .backlog _ => 0x0F
  | .overloaded _ => 0x10
  | .thermal => 0x11
  | .duplicateTag _ _ => 0x12
  | .noKey _ _ _ => 0x13
  | .keyNotYet _ _ _ => 0x14
  | .keyRetired _ _ _ => 0x15
  | .keyWithdrawn _ => 0x16
  | .unknownHandle _ => 0x17
  | .wrongState _ => 0x18
  | .txnFailed _ _ => 0x19
  | .busy => 0x1A
  | .stagingIdle => 0x1B
  | .outOfSequence _ => 0x1C
  | .overlength _ _ => 0x1D
  | .incomplete _ _ => 0x1E
  | .imageCrc _ => 0x1F
  | .badImage _ => 0x20
  | .conflict _ _ => 0x21
  | .directoryFull _ _ => 0x22
  | .rolloverConflict _ _ _ => 0x23
  | .rolloverFull => 0x24
  | .noRollover => 0x25
  | .slotState _ _ _ _ => 0x26

/-- The detail of a refusal. -/
def Refuse.detail : Refuse → List Byte
  | .unknownKind kind => [kind]
  | .badLength length => [length]
  | .badField offset lanes => [offset, lanes]
  | .timeBackward time => toBytes 6 time
  | .laneFull live quota => toBytes 1 live ++ toBytes 1 quota
  | .backlog depth => toBytes 1 depth
  | .overloaded estimate => toBytes 1 estimate
  | .duplicateTag handle lane => wordBytes 2 handle ++ [lane]
  | .noKey roles slot generation => [roles, indexByte slot, generation]
  | .keyNotYet role slot generation => [roleCode role, indexByte (some slot), generation]
  | .keyRetired role slot generation => [roleCode role, indexByte (some slot), generation]
  | .keyWithdrawn role => [roleCode role]
  | .unknownHandle handle => wordBytes 2 handle
  | .wrongState state => [contextCode state]
  | .txnFailed reason failedFrom => [reasonCode reason, liveCode failedFrom]
  | .outOfSequence counter => toBytes 2 counter
  | .overlength declared counter => toBytes 2 declared ++ toBytes 2 counter
  | .incomplete counter declared => toBytes 2 counter ++ toBytes 2 declared
  | .imageCrc crc => wordBytes 4 crc
  | .badImage record => [indexByte record]
  | .conflict record slot => [indexByte (some record), indexByte slot]
  | .directoryFull count empty => toBytes 1 count ++ toBytes 1 empty
  | .rolloverConflict a b reached => [a, b] ++ toBytes 1 reached
  | .slotState slot state generation role => [indexByte (some slot), keyStateCode state, generation, roleCode role]
  | .linkOverrun => []
  | .notReady => []
  | .halted => []
  | .zeroized => []
  | .notInService => []
  | .serviceState => []
  | .noTime => []
  | .laneOff => []
  | .tableFull => []
  | .thermal => []
  | .busy => []
  | .stagingIdle => []
  | .rolloverFull => []
  | .noRollover => []

/-! ### Completion records (R176) -/

/-- The kind and the fields of a completion record. -/
def CompletionRecord.fields : CompletionRecord → List Byte
  | .opened handle lane challenge proof =>
    [0x01] ++ wordBytes 2 handle ++ [lane] ++ wordBytes 8 challenge ++ wordBytes 8 proof
  | .verified handle lane => [0x02] ++ wordBytes 2 handle ++ [lane]
  | .sealed handle lane stamp sealGeneration sealBytes =>
    [0x03] ++ wordBytes 2 handle ++ [lane] ++ toBytes 6 stamp ++ [sealGeneration] ++ wordBytes 8 sealBytes
  | .failed handle lane reason failedFrom =>
    [0x04] ++ wordBytes 2 handle ++ [lane, reasonCode reason, liveCode failedFrom]
  | .committed imageId slots =>
    [0x05] ++ wordBytes 4 imageId ++ toBytes 1 slots.length ++ slots.map (BitVec.ofNat 8)
  | .commitFailed imageId index => [0x06] ++ wordBytes 4 imageId ++ [1, index]
  | .rolloverPhase issuer a b phase outcome time =>
    [0x07] ++ wordBytes 2 issuer ++ [a, b] ++ toBytes 1 phase ++ [outcomeCode outcome] ++ toBytes 4 time
  | .selftestDone origin pass0 pass1 => [0x08, originCode origin, resultCode pass0, resultCode pass1]
  | .thermal left new reading => [0x09, thermalCode left, thermalCode new, celsiusCode reading]

/-- The 32 bytes of a completion record. -/
def CompletionRecord.bytes (r : CompletionRecord) : List Byte := padTo 32 r.fields

/-! ### ACCEPT bodies (R174) -/

/-- The STATUS reply body. -/
def StatusReport.bytes (r : StatusReport) : List Byte :=
  [serviceCode r.service, markCode r.time.isSome] ++ toBytes 6 (r.time.getD 0) ++ toBytes 2 r.debt ++ [r.mask,
    healthCode r.health0, placementCode r.placement0, activityCode r.activity0,
    healthCode r.health1, placementCode r.placement1, activityCode r.activity1,
    thermalCode r.thermalState, markCode r.lastReading.isSome, celsiusCode (r.lastReading.getD 0)]
  ++ toBytes 1 r.hotCount ++ toBytes 1 r.contexts ++ toBytes 1 r.workDepth ++ toBytes 1 r.queueDepth
  ++ [markCode r.overflow, stagingCode r.staging] ++ toBytes 2 r.counter ++ toBytes 1 r.slots ++ toBytes 1 r.rollovers
  ++ [markCode r.checkValue.isSome] ++ wordBytes 4 (r.checkValue.getD 0)

/-- The failure reason and the state failed from, zero unless FAILED (R172). -/
def failureBytes : ContextState → List Byte
  | .failed reason failedFrom => [reasonCode reason, liveCode failedFrom]
  | .live _ => [0, 0]
  | .sealed _ _ => [0, 0]

/-- The stamp and the seal, zero unless SEALED (R172). -/
def sealBytesOf : ContextState → List Byte
  | .sealed stamp sealBytes => toBytes 6 stamp ++ wordBytes 8 sealBytes
  | .live _ => List.replicate 14 0
  | .failed _ _ => List.replicate 14 0

/-- The PREFETCH reply body. -/
def PrefetchOutcome.bytes : PrefetchOutcome → List Byte
  | .cached => [1, 0, 0, 0]
  | .noKey role code => [2, roleCode role, code.code, 0]
  | .dropped => [3, 0, 0, 0]
  | .queued operations => [4, 0, 0] ++ toBytes 1 operations

/-- The reply kind: ACCEPT 80 hex, REFUSE 81 hex (R173). -/
def Answer.kind : Answer → Byte
  | .refuse _ => 0x81
  | _ => 0x80

/-- The body of a reply. -/
def Answer.body : Answer → List Byte
  | .refuse code => code.code :: code.detail
  | .opened handle deadline estimate slack authHit sealHit =>
    wordBytes 2 handle ++ toBytes 6 deadline ++ toBytes 1 estimate ++ toBytes 2 slack ++ [roleSetCode authHit sealHit]
  | .verifying handle deadline => wordBytes 2 handle ++ toBytes 6 deadline
  | .sealing handle stamp operations => wordBytes 2 handle ++ toBytes 6 stamp ++ toBytes 1 operations
  | .closed state authTaint sealTaint cancelled =>
    [contextCode state] ++ failureBytes state ++ [roleSetCode authTaint sealTaint, markCode cancelled]
  | .context c job =>
    wordBytes 2 c.handle ++ [c.lane] ++ wordBytes 2 c.issuer ++ wordBytes 4 c.serial ++ [c.generation]
      ++ wordBytes 8 c.nonce ++ wordBytes 8 c.challenge ++ toBytes 1 c.auth.slot ++ wordBytes 2 c.auth.epoch
      ++ toBytes 1 c.sealKey.slot ++ wordBytes 2 c.sealKey.epoch ++ [c.sealGeneration] ++ toBytes 6 c.deadline
      ++ toBytes 1 c.reserved ++ [roleSetCode c.authTaint c.sealTaint, contextCode c.state, jobCode job]
      ++ failureBytes c.state ++ sealBytesOf c.state
  | .prefetched outcome => outcome.bytes
  | .collected records remaining overflow =>
    toBytes 1 records.length ++ toBytes 1 remaining ++ [markCode overflow] ++ (records.map CompletionRecord.bytes).flatten
  | .status report => report.bytes
  | .stageBegun count discarded => toBytes 1 count ++ [markCode discarded]
  | .chunkTaken counter => toBytes 2 counter
  | .commitStarted count operations => toBytes 1 count ++ toBytes 1 operations
  | .abandoned counter => toBytes 2 counter
  | .keyAbsent index => padTo 22 [0, index]
  | .keyPresent index state issuer generation role notBefore notAfter checkValue epoch bound =>
    [1, index, keyStateCode state] ++ wordBytes 2 issuer ++ [generation, roleCode role] ++ wordBytes 4 notBefore
      ++ wordBytes 4 notAfter ++ wordBytes 4 checkValue ++ wordBytes 2 epoch ++ toBytes 1 bound
  | .withdrawn slots tainted =>
    toBytes 1 slots.length ++ padTo 2 (slots.map (BitVec.ofNat 8)) ++ toBytes 1 tainted
  | .rolloverPlanned p1 p2 p3 p4 aAuth aSeal bAuth bSeal =>
    toBytes 4 p1 ++ toBytes 4 p2 ++ toBytes 4 p3 ++ toBytes 4 p4 ++ toBytes 1 aAuth ++ toBytes 1 aSeal ++ toBytes 1 bAuth
      ++ toBytes 1 bSeal
  | .rolledBack a b reached => [a, b] ++ toBytes 1 reached
  | .purged exponent first removed doomed =>
    toBytes 1 exponent ++ toBytes 4 first ++ toBytes 2 removed ++ toBytes 1 doomed
  | .timeTaken action time debt => [actionCode action] ++ toBytes 6 time ++ toBytes 2 debt
  | .lanes mask => [mask]
  | .service state failed => [serviceCode state] ++ toBytes 1 failed
  | .configured settings =>
    wordBytes 2 settings.gantry ++ toBytes 1 settings.quota ++ toBytes 1 settings.margin ++ toBytes 1 settings.hot
      ++ toBytes 1 settings.cool ++ toBytes 1 settings.faultCode
  | .selftestBegun => []
  | .restarting => []

/-- A frame of a kind, a tag and a body (R159). -/
def frameOf (kind tag : Byte) (body : List Byte) : List Byte :=
  let counted := BitVec.ofNat 8 (body.length + 2) :: kind :: tag :: body
  0xD1 :: counted ++ wordBytes 2 (crc16 counted)

/-- The reply frame of an answer, with the tag of its request (R164). -/
def replyFrame (tag : Byte) (a : Answer) : List Byte := frameOf a.kind tag a.body

/-- The bytes of the reply frame that the part is sending (R162), none when it sends none. -/
def Link.transmitting (l : Link) : List Byte :=
  match l.stage with
  | .sending tag a => replyFrame tag a
  | .idle => []
  | .handed => []

end Sys2Proof.Machine
end

