-- ==== Sys2Proof/Machine/Ops.lean ====
section
/-! DEFINITION. The operations that several commands share: posting a record, pins, cancellation, failing and freeing a
context, arbitration, insertion, withdrawal, and the clearing of the volatile state. -/

namespace Sys2Proof.Machine

/-! ### The Completion Queue -/

/-- A record joins the queue, or is lost and sets the overflow mark (R166). -/
def CompletionQueue.push (q : CompletionQueue) (r : CompletionRecord) : CompletionQueue :=
  if q.records.length < 64 then { q with records := q.records ++ [r] } else { q with overflow := true }

/-- Posts a record (R166). Nothing is posted in ZEROIZED (R169, R154). -/
def State.post (s : State) (r : CompletionRecord) : State :=
  if s.service = .zeroized then s else s.setQueue (s.queue.push r)

/-! ### The Derived Key Cache -/

/-- Moves to place 1 the entries that a test picks out (R58). The test picks out at most one (R57). -/
def moveToFront (p : CacheEntry → Bool) (cache : List CacheEntry) : List CacheEntry :=
  cache.filter p ++ cache.filter fun e => !p e

/-- A lookup that counts for recency (R58). -/
def State.touch (s : State) (issuer : Issuer) (serial : Serial) (generation : Generation) (role : Role) : State :=
  s.setCache (moveToFront (CacheEntry.isLiveFor issuer serial generation role) s.cache)

/-- Pins the live entry of a quadruple to a context (R63). -/
def State.pinEntry (s : State) (h : Handle) (issuer : Issuer) (serial : Serial) (generation : Generation) (role : Role) :
    State :=
  s.setCache (s.cache.map fun e =>
    if e.isLiveFor issuer serial generation role = true then { e with pin := some h } else e)

/-- What the release of a context's pin for a role leaves of an entry (R64). -/
def CacheEntry.released (h : Handle) (role : Role) (e : CacheEntry) : Option CacheEntry :=
  if e.isPinnedBy h role = true then (if e.doom.isSome then none else some { e with pin := none }) else some e

/-- Releases a context's pin for a role (R64). -/
def State.releasePin (s : State) (h : Handle) (role : Role) : State :=
  s.setCache (s.cache.filterMap (CacheEntry.released h role))

/-- Removes the unpinned entry that stands last; nothing when every entry is pinned (R62, log 20). -/
def evictLast : List CacheEntry → Option (List CacheEntry)
  | [] => none
  | e :: rest =>
    match evictLast rest with
    | some rest' => some (e :: rest')
    | none => if e.pin.isNone then some rest else none

/-- The cache with room for one more entry (R62). -/
def makeRoom (cache : List CacheEntry) : Option (List CacheEntry) :=
  if cache.length < 256 then some cache else evictLast cache

/-- The insertion of a completed derivation (R61). The master key is the one that the unit read when it began the operation
(R129). -/
def State.insert (s : State) (issuer : Issuer) (serial : Serial) (generation : Generation) (role : Role) (slot : Nat)
    (epoch : Epoch) (pin : Option Handle) (masterKey : Option Key) : State :=
  match s.slots[slot]? with
  | some ⟨some _, current, _⟩ =>
    if current = epoch then
      if cacheHit s.cache issuer serial generation role = true then
        match pin with
        | some h => (s.touch issuer serial generation role).pinEntry h issuer serial generation role
        | none => s.touch issuer serial generation role
      else
        match masterKey, makeRoom s.cache with
        | some k, some room =>
          s.setCache (⟨issuer, serial, generation, role, tagKey k serial issuer generation role, slot, epoch, pin, none⟩ :: room)
        | _, _ => s
    else s
  | _ => s

/-! ### The Work Queue -/

/-- Cancels the jobs that a test picks out: they leave the Work Queue, and a unit that runs one keeps RUNNING (R120). -/
def State.cancelJobs (s : State) (p : Job → Bool) : State := s.setJobs (s.jobs.filter fun j => !p j)

/-- Cancels a context's job (R120). -/
def State.cancelJobOf (s : State) (h : Handle) : State := s.cancelJobs fun j => decide (j.work.owner = some h)

/-- Places a job at the tail, with the next enqueue sequence (R113). -/
def State.place (s : State) (work : Work) (operations : List Operation) (time : Nat) : State :=
  (s.setJobs (s.jobs ++ [⟨work, operations, time, s.nextSequence, false, false⟩])).setNextSequence (s.nextSequence + 1)

/-- The first of some jobs in an order: no other comes before it. -/
def firstJob (before : Job → Job → Bool) : List Job → Option Job
  | [] => none
  | j :: rest =>
    match firstJob before rest with
    | none => some j
    | some k => if before k j = true then some k else some j

/-- The waiting order of LANE and KEYSET jobs (R115). -/
def deadlineBefore (a b : Job) : Bool :=
  decide (a.time < b.time) || (decide (a.time = b.time) && decide (a.sequence < b.sequence))

/-- The waiting order of PREFETCH jobs (R115). -/
def sequenceBefore (a b : Job) : Bool := decide (a.sequence < b.sequence)

/-- The next job that the arbiter hands out (R116). -/
def nextJob (jobs : List Job) : Option Job :=
  match firstJob deadlineBefore (jobs.filter fun j => !j.running && !j.work.isPrefetch) with
  | some j => some j
  | none => firstJob sequenceBefore (jobs.filter fun j => !j.running && j.work.isPrefetch)

/-- The master key that a unit reads when it begins an operation (R129). -/
def masterKeyFor (slots : List Slot) (op : Option Operation) : Option Key :=
  match op with
  | some (.derive _ _ slot epoch) =>
    match slots[slot]? with
    | some ⟨some k, current, _⟩ => if current = epoch then some k.key else none
    | _ => none
  | _ => none

/-- Replaces the job of an enqueue sequence. -/
def updateJob (jobs : List Job) (sequence : Nat) (f : Job → Job) : List Job :=
  jobs.map fun j => if j.sequence = sequence then f j else j

/-- A unit takes the next job, if it serves, is FREE and one waits (R116). -/
def State.takeNext (s : State) (name : UnitName) : State :=
  if ((s.unit name).serves s.suspended && (s.unit name).isFree) = true then
    match nextJob s.jobs with
    | some j =>
      (s.setJobs (updateJob s.jobs j.sequence fun j => { j with running := true, started := true })).setUnit name
        { s.unit name with activity := .running j.sequence (masterKeyFor s.slots j.operations.head?) }
    | none => s
  else s

/-- The arbiter hands out jobs until none waits or no unit is serving and FREE, U0 first (R116). -/
def State.arbitrate (s : State) : State := (s.takeNext .u0).takeNext .u1

/-! ### Contexts -/

/-- Changes the context at an index. -/
def State.updateContext (s : State) (i : Nat) (f : Context → Context) : State :=
  s.setPlaces (s.places.modify i fun p => { p with context := p.context.map f })

/-- A context goes to FAILED, with the effects that every such change has (R84). -/
def State.failContext (s : State) (i : Nat) (reason : FailReason) (posted : Bool) : State :=
  match s.contextAt i with
  | some c =>
    match c.state with
    | .live l =>
      let t := (((s.updateContext i fun c => { c with state := .failed reason l, reserved := 0 }).cancelJobOf
        c.handle).releasePin c.handle .auth).releasePin c.handle .seal
      if posted = true then t.post (.failed c.handle c.lane reason l) else t
    | .sealed _ _ => s
    | .failed _ _ => s
  | none => s

/-- The contexts at some indices go to FAILED one after another, each with its record (R14, R89, R90). -/
def State.failEach (s : State) (indices : List Nat) (reason : FailReason) : State :=
  indices.foldl (fun s i => s.failContext i reason true) s

/-- The indices in ascending order whose contexts a test picks out. -/
def State.indicesWhere (s : State) (p : Context → Bool) : List Nat :=
  (List.range s.places.length).filter fun i =>
    match s.contextAt i with
    | some c => p c
    | none => false

/-- A slot's bound count falls by 1 (R8). -/
def lowerBound (slots : List Slot) (i : Nat) : List Slot := slots.modify i fun x => { x with bound := x.bound - 1 }

/-- A slot's bound count rises by 1 (R8). -/
def raiseBound (slots : List Slot) (i : Nat) : List Slot := slots.modify i fun x => { x with bound := x.bound + 1 }

/-- The slots after a context no longer counts against its untainted bindings (R8). -/
def unbind (c : Context) (slots : List Slot) : List Slot :=
  let after := if c.authTaint then slots else lowerBound slots c.auth.slot
  if c.sealTaint then after else lowerBound after c.sealKey.slot

/-- A context is freed: its job is cancelled, its pins are released, its untainted bindings no longer count, and its index
is free with its use count kept (R86, R88). -/
def State.freeContext (s : State) (i : Nat) (c : Context) : State :=
  ((((s.cancelJobOf c.handle).releasePin c.handle .auth).releasePin c.handle .seal).setSlots (unbind c s.slots)).setPlaces
    (s.places.modify i fun p => { p with context := none })

/-! ### Withdrawal (R10 to R14) -/

/-- Whether a withdrawal of some slots reaches a reference to a slot at an epoch: the slot is one of them, it is not EMPTY,
and it stands at that epoch. -/
def reaches (slots : List Slot) (withdrawn : List Nat) (slot : Nat) (epoch : Epoch) : Bool :=
  withdrawn.contains slot &&
    match slots[slot]? with
    | some x => x.held.isSome && decide (x.epoch = epoch)
    | none => false

/-- The slots after a withdrawal (R10). -/
def emptyEach (slots : List Slot) (withdrawn : List Nat) : List Slot :=
  withdrawn.foldl (fun l i => l.modify i fun x => { x with held := none, bound := 0 }) slots

/-- What a withdrawal leaves of an entry (R11). -/
def CacheEntry.withdrawn (slots : List Slot) (withdrawn : List Nat) (e : CacheEntry) : Option CacheEntry :=
  if (e.doom.isNone && reaches slots withdrawn e.sourceSlot e.sourceEpoch) = true then
    (if e.pin.isSome then some { e with doom := some .withdrawn } else none)
  else some e

/-- The taint flags of a context after a withdrawal (R12). -/
def Context.tainted (slots : List Slot) (withdrawn : List Nat) (c : Context) : Context :=
  { c with
    authTaint := c.authTaint || reaches slots withdrawn c.auth.slot c.auth.epoch
    sealTaint := c.sealTaint || reaches slots withdrawn c.sealKey.slot c.sealKey.epoch }

/-- Whether a withdrawal gives a context a taint flag (R12, R15). -/
def Context.reached (slots : List Slot) (withdrawn : List Nat) (c : Context) : Bool :=
  reaches slots withdrawn c.auth.slot c.auth.epoch || reaches slots withdrawn c.sealKey.slot c.sealKey.epoch

/-- Whether a withdrawal cancels the job of a context: the job consumes a role that the withdrawal taints (R12). -/
def Context.jobReached (slots : List Slot) (jobs : List Job) (withdrawn : List Nat) (c : Context) : Bool :=
  match jobOf jobs c.handle with
  | some j =>
    match j.work.consumes with
    | some .auth => reaches slots withdrawn c.auth.slot c.auth.epoch
    | some .seal => reaches slots withdrawn c.sealKey.slot c.sealKey.epoch
    | none => false
  | none => false

/-- Whether a rollover record names one of some slots (R13). -/
def Rollover.names (slots : List Nat) (r : Rollover) : Bool :=
  slots.contains r.aAuth || slots.contains r.aSeal || slots.contains r.bAuth || slots.contains r.bSeal

/-- The ABANDONED records of some rollovers are posted in their order (R13, R14, R50). -/
def State.postAbandoned (s : State) (records : List Rollover) : State :=
  records.foldl (fun s r => s.post (.rolloverPhase r.issuer r.a r.b r.reached .abandoned 0)) s

/-- The withdrawal of some slots that are not EMPTY, with its effects on the other blocks and its records in the order of
R14 (R10 to R14). A phase 4 removes its own record before it withdraws (R48). -/
def State.withdraw (s : State) (withdrawn : List Nat) : State :=
  let emptied := s.setSlots (emptyEach s.slots withdrawn)
  let purged := emptied.setCache (s.cache.filterMap (CacheEntry.withdrawn s.slots withdrawn))
  let tainted := purged.setPlaces (s.places.map fun p => { p with context := p.context.map (Context.tainted s.slots withdrawn) })
  let failed := tainted.failEach (s.indicesWhere (Context.jobReached s.slots s.jobs withdrawn)) .keyWithdrawn
  (failed.setRollovers (s.rollovers.filter fun r => !r.names withdrawn)).postAbandoned
    (s.rollovers.filter (Rollover.names withdrawn))

/-- The number of contexts that a withdrawal of some slots gives a taint flag (R15). -/
def State.taintCount (s : State) (withdrawn : List Nat) : Nat :=
  s.contexts.countP (Context.reached s.slots withdrawn)

/-- A slot changes its state other than to EMPTY (R3). -/
def setKeyState (slots : List Slot) (i : Nat) (state : KeyState) : List Slot :=
  slots.modify i fun x => { x with held := x.held.map fun k => { k with state := state } }

/-! ### Reset (R148) and zeroize (R150) -/

/-- The volatile state takes its reset values; the protected store, the straps as last read and the Random Source are kept
(R19, R148). The service state reads STARTING while the part is not running (log 12). -/
def State.clearVolatile (s : State) : State :=
  { s with
    link := Link.quiet
    service := .starting
    mask := 0
    settings := Settings.default
    clock := ⟨none, 0, 0⟩
    slots := s.slots.map fun x => { x with bound := 0 }
    stager := .idle
    cache := []
    places := List.replicate 48 Place.fresh
    u0 := CipherUnit.fresh
    u1 := CipherUnit.fresh
    suspended := false
    test := none
    jobs := []
    nextSequence := 0
    thermal := ⟨none, 0, 0, .normal⟩
    queue := ⟨[], false⟩
    restarting := false
    answer := none }

/-- A reset begins (R149). -/
def State.beginReset (s : State) : State := s.clearVolatile.setPower .inReset

/-- Both units test themselves (R123). -/
def State.beginTest (s : State) (origin : TestOrigin) : State :=
  ((s.setTest (some origin)).setU0 { s.u0 with activity := .testing }).setU1 { s.u1 with activity := .testing }

/-! ### Requests (R162, R163) -/

/-- The service states' refusals that come before any owner (check 3 of R163). -/
def gate (service : ServiceState) (i : Instr) : Option Refuse :=
  match service with
  | .starting => if i = .status then none else some .notReady
  | .serviceOff => none
  | .serviceOn => none
  | .halted =>
    match i with
    | .status => none
    | .keyRead _ => none
    | .restart => none
    | _ => some .halted
  | .zeroized => if i = .status then none else some .zeroized

end Sys2Proof.Machine
end

