-- ==== Sys2Proof/Machine/Link.lean ====
section
/-! DEFINITION. The Lane Link (11): reception, the answer list, and the meanings of BYTE_RECEIVED, FRAME_RECEIVED,
FRAME_GAP_TIMEOUT and REPLY_COMPLETE. Also the two shapes of a meaning: a request's and an event's. -/

namespace Sys2Proof.Machine

/-! ### The answer list (R161, R162, R163) -/

/-- Whether an entry is a request entry (R161). -/
def Entry.isRequest : Entry → Bool
  | .request _ _ _ => true
  | .overrun _ _ => false

/-- The number of request entries held. -/
def Link.requests (l : Link) : Nat := l.entries.countP Entry.isRequest

/-- The number of overrun notes held. -/
def Link.notes (l : Link) : Nat := l.entries.countP fun e => !e.isRequest

/-- How far the answering of an entry comes in the event that begins it, in which the other blocks stand as `now` says: an
overrun note and a request that fails a check of R163 have their reply at once, and so has STATUS, whose fields are read in
this event (R170); another request is handed to its owner (R162). -/
def beginEntry (now : StatusReport) : Entry → LinkStage
  | .overrun _ tag => .sending tag (.refuse .linkOverrun)
  | .request kind tag body =>
    match decodeRequest kind body with
    | .unknownKind => .sending tag (.refuse (.unknownKind kind))
    | .badLength => .sending tag (.refuse (.badLength (BitVec.ofNat 8 body.length)))
    | .badService =>
      match gate now.service .serviceOff with
      | some r => .sending tag (.refuse r)
      | none => .sending tag (.refuse (.badField 0 0))
    | .request i =>
      match gate now.service i with
      | some r => .sending tag (.refuse r)
      | none => if i = .status then .sending tag (.status now) else .handed

/-- Begins the head entry, if there is one (R162). -/
def Link.beginHead (l : Link) (now : StatusReport) : Link :=
  match l.entries with
  | [] => { l with stage := .idle }
  | e :: _ => { l with stage := beginEntry now e }

/-- A good frame joins the answer list at its tail, or is discarded (R161). -/
def joinEntries (entries : List Entry) (kind tag : Byte) (body : List Byte) : List Entry :=
  if entries.countP Entry.isRequest < 4 then entries ++ [.request kind tag body]
  else if (entries.countP fun e => !e.isRequest) < 8 then entries ++ [.overrun kind tag]
  else entries

/-- A good frame reaches the answer list; at an empty list it is begun (R161, R162). -/
def Link.join (l : Link) (now : StatusReport) (kind tag : Byte) (body : List Byte) : Link :=
  match l.entries with
  | [] => ({ l with entries := joinEntries [] kind tag body } : Link).beginHead now
  | e :: rest => { l with entries := joinEntries (e :: rest) kind tag body }

/-! ### The receiver (R160) -/

/-- Takes the bytes after the length of a whole frame: a frame whose CRC-16 matches is a good frame, another is dropped, and
the receiver hunts (R160). -/
def Link.complete (l : Link) (now : StatusReport) (length : Byte) (received : List Byte) : Link :=
  let hunting := { l with receiver := .hunting }
  match received.take length.toNat with
  | kind :: tag :: body =>
    if fromBytes (received.drop length.toNat) = (crc16 (length :: kind :: tag :: body)).toNat then
      hunting.join now kind tag body
    else hunting
  | _ => hunting

/-- A byte arrives (R160). -/
def Link.receive (l : Link) (now : StatusReport) (b : Byte) : Link :=
  match l.receiver with
  | .hunting => if b = 0xD1 then { l with receiver := .atLength } else l
  | .atLength =>
    if 2 ≤ b.toNat ∧ b.toNat ≤ 250 then { l with receiver := .inFrame b [] } else { l with receiver := .hunting }
  | .inFrame length received =>
    if received.length + 1 < length.toNat + 2 then { l with receiver := .inFrame length (received ++ [b]) }
    else l.complete now length (received ++ [b])

/-- Whether the receiver waits for the last CRC byte of a frame. -/
def Receiver.lacksOne : Receiver → Bool
  | .inFrame length received => decide (received.length + 1 = length.toNat + 2)
  | .hunting => false
  | .atLength => false

/-- The receiver abandons a frame (R160). -/
def Link.abandon (l : Link) : Link :=
  match l.receiver with
  | .hunting => l
  | .atLength => { l with receiver := .hunting }
  | .inFrame _ _ => { l with receiver := .hunting }

/-! ### Replies -/

/-- The tag of the head entry, when it has been handed to its owner and holds this request (R162). -/
def Link.handedTag (l : Link) (i : Instr) : Option Byte :=
  match l.stage, l.entries with
  | .handed, .request kind tag body :: _ => if decodeRequest kind body = .request i then some tag else none
  | _, _ => none

/-- Whether the Lane Link has handed this request to its owner and waits for its outcome (R162). -/
def Link.hasHanded (l : Link) (i : Instr) : Bool := (l.handedTag i).isSome

/-- The Lane Link takes the outcome of a request's event and sends it, when it has handed that request over (R162). -/
def Link.deliver (l : Link) (i : Instr) (a : Answer) : Link :=
  match l.handedTag i with
  | some tag => { l with stage := .sending tag a }
  | none => l

/-- The outcome of a request's event (R162, log 1). -/
def State.answered (s : State) (i : Instr) (a : Answer) : State := (s.setLink (s.link.deliver i a)).setAnswer (some a)

/-- The service state's refusal of a request before its owner's event (check 3 of R163). A request that the Lane Link has
handed over passed the check in the event that began it, and the service state is not read again; only a zeroize since then
refuses it, as R165 answers the entries in the list (log 31). -/
def State.linkRefusal (s : State) (i : Instr) : Option Refuse :=
  if s.link.hasHanded i = true ∧ s.service ≠ .zeroized then none else gate s.service i

/-- The meaning of a request: the Lane Link's refusal, or its owner's event (R162, R163). Out of reset and with supply only
(R149). -/
def request (i : Instr) (own : State → State × Answer) (s : State) : Host.Outcome State Fault Refusal :=
  if s.power = .running then
    match s.linkRefusal i with
    | some r => .next (s.answered i (.refuse r))
    | none => .next ((own s).1.answered i (own s).2)
  else .next s

/-- The meaning of an event of the running part; without supply or in reset nothing happens (R149). -/
def event (effect : State → State) (s : State) : Host.Outcome State Fault Refusal :=
  if s.power = .running then .next (effect s) else .next s

/-- The reply that is being sent is the ACCEPT of the RESTART, or no reply is being sent (log 1). -/
def Link.sendsRestart (l : Link) : Bool :=
  match l.stage with
  | .sending _ a => decide (a = .restarting)
  | .idle => true
  | .handed => true

/-- The last byte of a reply has been sent: its entry leaves and the next one is begun (R161, R162); the reset of a RESTART
begins (R149). -/
def State.replySent (s : State) : State :=
  if (s.restarting && s.link.sendsRestart) = true then s.beginReset
  else
    match s.link.stage with
    | .sending _ _ => s.setLink (({ s.link with entries := s.link.entries.tail } : Link).beginHead s.report)
    | .idle => s
    | .handed => s

/-! ### Meanings -/

/-- BYTE_RECEIVED (R160). -/
def execByteReceived (byte : Byte) (s : State) : Host.Outcome State Fault Refusal :=
  event (fun s => s.setLink (s.link.receive s.report byte)) s

/-- FRAME_RECEIVED (R160, R161): takes effect when the receiver waits for the last CRC byte (log 23). -/
def execFrameReceived (last : Byte) (s : State) : Host.Outcome State Fault Refusal :=
  event (fun s => if s.link.receiver.lacksOne = true then s.setLink (s.link.receive s.report last) else s) s

/-- FRAME_GAP_TIMEOUT (R160). -/
def execFrameGapTimeout (s : State) : Host.Outcome State Fault Refusal :=
  event (fun s => s.setLink s.link.abandon) s

/-- REPLY_COMPLETE (R161). -/
def execReplyComplete (s : State) : Host.Outcome State Fault Refusal :=
  event State.replySent s

end Sys2Proof.Machine
end

