-- ==== Sys2Proof/Machine/Transactions.lean ====
section
/-! DEFINITION. The Transaction Table (05, 06): OPEN, VERIFY, SEAL, CLOSE, QUERY, DEADLINE_EVENT and LINGER_END. -/

namespace Sys2Proof.Machine

/-! ### OPEN (R76 to R78, R98 to R106) -/

/-- The cost of a new transaction (R101). -/
def openCost (authHit sealHit : Bool) : Nat :=
  (if authHit then 0 else 1) + 1 + 1 + (if sealHit then 0 else 1) + 2

/-- The estimate in ms of some operations on n units (R105). -/
def estimateMs (operations n : Nat) : Nat :=
  let microseconds := (operations * 120 + (n - 1)) / n
  (microseconds + 999) / 1000

/-- What an OPEN that passes its checks has found out. -/
structure OpenPlan where
  index : Nat
  auth : Binding
  sealKey : Binding
  sealGeneration : Generation
  authHit : Bool
  sealHit : Bool
  dwell : Nat
  estimate : Nat

/-- The estimate that admission computes for an OPEN (R103, R105). -/
def State.openEstimate (s : State) (dwell cost : Nat) : Nat :=
  estimateMs (contextsAhead s.contexts (s.nowMs + dwell) + keysetAhead s.jobs (s.nowMs + dwell) + cost) s.unitsServing

/-- The lowest free index (R74). -/
def State.freeIndex (s : State) : Option Nat := s.places.findIdx? fun p => p.context.isNone

/-- The context that blocks a tag: one of its issuer and serial outside FAILED (R76, R77). -/
def State.blockingContext (s : State) (issuer : Issuer) (serial : Serial) : Option Context :=
  s.contexts.find? fun c => decide (c.issuer = issuer) && decide (c.serial = serial) && !c.isFailed

/-- Checks 9 to 12 of R76, for an OPEN whose slots have resolved. -/
def State.admission (s : State) (lane : Byte) (issuer : Issuer) (serial : Serial) (generation : Generation) (dwell : Nat)
    (auth : Binding) (sealKey : Binding × Generation) : Except Refuse OpenPlan :=
  let authHit := cacheHit s.cache issuer serial generation .auth
  let sealHit := cacheHit s.cache issuer serial sealKey.2 .seal
  let estimate := s.openEstimate dwell (openCost authHit sealHit)
  match s.freeIndex with
  | none => .error .tableFull
  | some index =>
    if s.settings.quota ≤ s.liveCount lane then .error (.laneFull (s.liveCount lane) s.settings.quota)
    else if 48 ≤ s.queue.records.length then .error (.backlog s.queue.records.length)
    else if estimate + s.settings.margin ≤ dwell then
      .ok ⟨index, auth, sealKey.1, sealKey.2, authHit, sealHit, dwell, estimate⟩
    else .error (.overloaded estimate)

/-- The twelve checks of R76, in order. -/
def State.checkOpen (s : State) (lane : Byte) (issuer : Issuer) (serial : Serial) (generation : Generation) (dwell : Nat) :
    Except Refuse OpenPlan :=
  if s.service ≠ .serviceOn then .error .notInService
  else if 7 < lane.toNat then .error (.badField 0 0)
  else if laneEnabled s.mask lane = false then .error .laneOff
  else if issuerValid issuer = false then .error (.badField 1 0)
  else if s.unitsServing = 0 then .error .thermal
  else
    match s.blockingContext issuer serial with
    | some c => .error (.duplicateTag c.handle c.lane)
    | none =>
      match resolveAuth s.slots issuer generation s.nowSeconds with
      | .error r => .error r
      | .ok auth =>
        match resolveSeal s.slots issuer generation s.nowSeconds with
        | .error r => .error r
        | .ok sealKey => s.admission lane issuer serial generation dwell auth sealKey

/-- The use count of an index at its next allocation (R74). -/
def State.nextUse (s : State) (index : Nat) : Nat :=
  match s.places[index]? with
  | some p => (p.useCount + 1) % 1024
  | none => 0

/-- The handle of an index at its next allocation (R74). -/
def State.nextHandle (s : State) (index : Nat) : Handle := BitVec.ofNat 16 (s.nextUse index * 64 + index)

/-- The context of an OPEN that is taken (R78). -/
def State.newContext (s : State) (lane : Byte) (issuer : Issuer) (serial : Serial) (generation : Generation) (nonce : Half)
    (p : OpenPlan) : Context where
  handle := s.nextHandle p.index
  lane := lane
  issuer := issuer
  serial := serial
  generation := generation
  nonce := nonce
  challenge := Config.challenge s.draws
  auth := p.auth
  sealKey := p.sealKey
  sealGeneration := p.sealGeneration
  deadline := s.nowMs + p.dwell
  reserved := openCost p.authHit p.sealHit
  authTaint := false
  sealTaint := false
  state := .live .opening

/-- The operations of an OPEN job (R78, R114). -/
def openOperations (generation : Generation) (p : OpenPlan) : List Operation :=
  if p.authHit then [.readerProof] else [.derive .auth generation p.auth.slot p.auth.epoch, .readerProof]

/-- A lookup of a taken OPEN or SEAL that hit: the entry moves to place 1 and is pinned (R58, R63). -/
def State.touchAndPin (s : State) (hit : Bool) (h : Handle) (issuer : Issuer) (serial : Serial) (generation : Generation)
    (role : Role) : State :=
  if hit then (s.touch issuer serial generation role).pinEntry h issuer serial generation role else s

/-- The event that takes an OPEN (R78). -/
def State.takeOpen (s : State) (c : Context) (p : OpenPlan) : State :=
  let allocated := (s.setPlaces (s.places.set p.index ⟨s.nextUse p.index, some c⟩)).setDraws (s.draws + 1)
  let bound := allocated.setSlots (raiseBound (raiseBound s.slots p.auth.slot) p.sealKey.slot)
  let pinned := (bound.touchAndPin p.authHit c.handle c.issuer c.serial c.generation .auth).touchAndPin p.sealHit c.handle
    c.issuer c.serial c.sealGeneration .seal
  (pinned.place (.opening c.handle c.issuer c.serial c.nonce c.challenge) (openOperations c.generation p) c.deadline).arbitrate

/-- The Transaction Table's event for an OPEN (R76, R78, R106). -/
def ownOpen (lane : Byte) (issuer : Issuer) (serial : Serial) (generation : Generation) (nonce : Half) (dwell : BitVec 16)
    (s : State) : State × Answer :=
  match s.checkOpen lane issuer serial generation (dwellTaken dwell) with
  | .error r => (s, .refuse r)
  | .ok p =>
    let c := s.newContext lane issuer serial generation nonce p
    (s.takeOpen c p,
      .opened c.handle c.deadline p.estimate (p.dwell - p.estimate - s.settings.margin) p.authHit p.sealHit)

/-- OPEN (R76). -/
def execOpen (lane : Byte) (issuer : Issuer) (serial : Serial) (generation : Generation) (nonce : Half) (dwell : BitVec 16)
    (s : State) : Host.Outcome State Fault Refusal :=
  request (.openTag lane issuer serial generation nonce dwell) (ownOpen lane issuer serial generation nonce dwell) s

/-! ### VERIFY (R80) -/

/-- The refusal of a request that needs a context in another state (R80, R82). -/
def stateRefusal (state : ContextState) : Refuse :=
  match state with
  | .failed reason failedFrom => .txnFailed reason failedFrom
  | .live l => .wrongState (.live l)
  | .sealed stamp sealBytes => .wrongState (.sealed stamp sealBytes)

/-- The Transaction Table's event for a VERIFY (R80). -/
def ownVerify (handle : Handle) (proof : Half) (s : State) : State × Answer :=
  if s.service ≠ .serviceOn then (s, .refuse .notInService)
  else
    match s.resolveHandle handle with
    | none => (s, .refuse (.unknownHandle handle))
    | some (i, c) =>
      if c.state ≠ .live .awaitTag then (s, .refuse (stateRefusal c.state))
      else if c.authTaint = true then (s.failContext i .keyWithdrawn false, .refuse (.keyWithdrawn .auth))
      else
        ((((s.updateContext i fun c => { c with state := .live .verifying }).place (.verifying c.handle proof) [.tagProof]
          c.deadline).arbitrate), .verifying c.handle c.deadline)

/-- VERIFY (R80). -/
def execVerify (handle : Handle) (proof : Half) (s : State) : Host.Outcome State Fault Refusal :=
  request (.verify handle proof) (ownVerify handle proof) s

/-! ### SEAL (R82) -/

/-- The seal record that a SEAL request fixes (R82, R133). -/
def State.sealRecord (s : State) (c : Context) (vehicleClass : Byte) (charge : BitVec 32) (sequence : BitVec 16) :
    SealRecord where
  serial := c.serial
  issuer := c.issuer
  authGeneration := c.generation
  sealGeneration := c.sealGeneration
  gantry := s.settings.gantry
  lane := c.lane
  vehicleClass := vehicleClass
  charge := charge
  sequence := sequence
  stamp := s.nowMs

/-- Whether a context holds a SEAL pin (R60). -/
def State.holdsSealPin (s : State) (c : Context) : Bool := s.cache.any (CacheEntry.isPinnedBy c.handle .seal)

/-- Whether the SEAL lookup of a SEAL request is made and hits (R59, R60). -/
def State.sealLookupHits (s : State) (c : Context) : Bool :=
  !s.holdsSealPin c && cacheHit s.cache c.issuer c.serial c.sealGeneration .seal

/-- The operations of a SEAL job (R82, R114). -/
def State.sealOperations (s : State) (c : Context) : List Operation :=
  if s.holdsSealPin c || s.sealLookupHits c then [.sealFirst, .sealSecond]
  else [.derive .seal c.sealGeneration c.sealKey.slot c.sealKey.epoch, .sealFirst, .sealSecond]

/-- The event that takes a SEAL (R82). -/
def State.takeSeal (s : State) (i : Nat) (c : Context) (record : SealRecord) : State :=
  let operations := s.sealOperations c
  let pinned := s.touchAndPin (s.sealLookupHits c) c.handle c.issuer c.serial c.sealGeneration .seal
  ((pinned.updateContext i fun c => { c with state := .live .sealing, reserved := operations.length }).place
    (.sealing c.handle record none) operations c.deadline).arbitrate

/-- The Transaction Table's event for a SEAL (R82). -/
def ownSeal (handle : Handle) (vehicleClass : Byte) (charge : BitVec 32) (sequence : BitVec 16) (s : State) :
    State × Answer :=
  if s.service ≠ .serviceOn then (s, .refuse .notInService)
  else
    match s.resolveHandle handle with
    | none => (s, .refuse (.unknownHandle handle))
    | some (i, c) =>
      if c.state ≠ .live .authenticated then (s, .refuse (stateRefusal c.state))
      else if vehicleClass.toNat < 1 ∨ 15 < vehicleClass.toNat then (s, .refuse (.badField 2 0))
      else if 9999999 < charge.toNat then (s, .refuse (.badField 3 0))
      else if c.sealTaint = true then (s.failContext i .keyWithdrawn false, .refuse (.keyWithdrawn .seal))
      else
        (s.takeSeal i c (s.sealRecord c vehicleClass charge sequence),
          .sealing c.handle s.nowMs (s.sealOperations c).length)

/-- SEAL (R82). -/
def execSeal (handle : Handle) (vehicleClass : Byte) (charge : BitVec 32) (sequence : BitVec 16) (s : State) :
    Host.Outcome State Fault Refusal :=
  request (.sealTag handle vehicleClass charge sequence) (ownSeal handle vehicleClass charge sequence) s

/-! ### CLOSE and QUERY (R86, R87) -/

/-- The Transaction Table's event for a CLOSE (R86). -/
def ownClose (handle : Handle) (s : State) : State × Answer :=
  match s.resolveHandle handle with
  | none => (s, .refuse (.unknownHandle handle))
  | some (i, c) => (s.freeContext i c, .closed c.state c.authTaint c.sealTaint (jobOf s.jobs c.handle).isSome)

/-- CLOSE (R86). -/
def execClose (handle : Handle) (s : State) : Host.Outcome State Fault Refusal :=
  request (.close handle) (ownClose handle) s

/-- The Transaction Table's event for a QUERY (R87). -/
def ownQuery (handle : Handle) (s : State) : State × Answer :=
  match s.resolveHandle handle with
  | none => (s, .refuse (.unknownHandle handle))
  | some (_, c) => (s, .context c (jobStatusOf s.jobs c.handle))

/-- QUERY (R87). -/
def execQuery (handle : Handle) (s : State) : Host.Outcome State Fault Refusal :=
  request (.query handle) (ownQuery handle) s

/-! ### Deadline event and linger end (R88) -/

/-- Whether a due time has been reached: lane time is set and at or beyond it (R141). -/
def State.due (s : State) (time : Nat) : Bool :=
  match s.clock.time with
  | some now => decide (time ≤ now)
  | none => false

/-- The deadline event of the context at an index, if it is due (R88). -/
def State.deadlineEvent (index : Nat) (s : State) : State :=
  match s.contextAt index with
  | some c => if s.due c.deadline = true then s.failContext index .expired true else s
  | none => s

/-- DEADLINE_EVENT (R88). -/
def execDeadlineEvent (index : Nat) (s : State) : Host.Outcome State Fault Refusal :=
  event (State.deadlineEvent index) s

/-- The linger end of the context at an index, if it is due (R88). -/
def State.lingerEnd (index : Nat) (s : State) : State :=
  match s.contextAt index with
  | some c => if s.due (c.deadline + 2000) = true then s.freeContext index c else s
  | none => s

/-- LINGER_END (R88). -/
def execLingerEnd (index : Nat) (s : State) : Host.Outcome State Fault Refusal :=
  event (State.lingerEnd index) s

end Sys2Proof.Machine
end

