-- ==== Sys2Proof/Machine/Cache.lean ====
section
/-! DEFINITION. The Derived Key Cache's commands (04): PREFETCH, PURGE and PREFETCH_EXPIRY. -/

namespace Sys2Proof.Machine

/-! ### PREFETCH (R68, R69) -/

/-- The derivations of a prefetch job, each when its entry is missing, AUTH first (R69). -/
def prefetchOperations (generation : Generation) (auth : Binding) (sealKey : Binding × Generation) (authHit sealHit : Bool) :
    List Operation :=
  (if authHit then [] else [.derive .auth generation auth.slot auth.epoch])
    ++ (if sealHit then [] else [.derive .seal sealKey.2 sealKey.1.slot sealKey.1.epoch])

/-- The lookups of a PREFETCH move each entry found to place 1, AUTH first and SEAL second (R58, R68). -/
def State.prefetchLookups (s : State) (issuer : Issuer) (serial : Serial) (generation sealGeneration : Generation) : State :=
  (s.touch issuer serial generation .auth).touch issuer serial sealGeneration .seal

/-- Steps 2 to 4 of R68, for a PREFETCH whose slots have resolved. -/
def State.prefetchResolved (s : State) (issuer : Issuer) (serial : Serial) (generation : Generation) (auth : Binding)
    (sealKey : Binding × Generation) : State × Answer :=
  let authHit := cacheHit s.cache issuer serial generation .auth
  let sealHit := cacheHit s.cache issuer serial sealKey.2 .seal
  let looked := s.prefetchLookups issuer serial generation sealKey.2
  let operations := prefetchOperations generation auth sealKey authHit sealHit
  if (authHit && sealHit) = true then (looked, .prefetched .cached)
  else if s.thermal.state = .suspended ∨ 15 ≤ prefetchJobs s.jobs then (looked, .prefetched .dropped)
  else ((looked.place (.prefetch issuer serial) operations s.nowMs).arbitrate, .prefetched (.queued operations.length))

/-- The Derived Key Cache's event for a PREFETCH (R68). -/
def ownPrefetch (issuer : Issuer) (serial : Serial) (generation : Generation) (s : State) : State × Answer :=
  if s.service ≠ .serviceOn then (s, .refuse .notInService)
  else if issuerValid issuer = false then (s, .refuse (.badField 0 0))
  else
    match resolveAuth s.slots issuer generation s.nowSeconds with
    | .error r => (s, .prefetched (.noKey .auth r))
    | .ok auth =>
      match resolveSeal s.slots issuer generation s.nowSeconds with
      | .error r => (s, .prefetched (.noKey .seal r))
      | .ok sealKey => s.prefetchResolved issuer serial generation auth sealKey

/-- PREFETCH (R68). -/
def execPrefetch (issuer : Issuer) (serial : Serial) (generation : Generation) (s : State) :
    Host.Outcome State Fault Refusal :=
  request (.prefetch issuer serial generation) (ownPrefetch issuer serial generation) s

/-! ### PURGE (R66) -/

/-- Whether a PURGE finds an entry: a live entry of its issuer with a serial in its range (R66). -/
def CacheEntry.purgeable (issuer : Issuer) (base : Serial) (exponent : Nat) (e : CacheEntry) : Bool :=
  decide (e.issuer = issuer) && inRange base exponent e.serial && e.doom.isNone

/-- What a PURGE leaves of an entry (R66). -/
def CacheEntry.purged (issuer : Issuer) (base : Serial) (exponent : Nat) (e : CacheEntry) : Option CacheEntry :=
  if e.purgeable issuer base exponent = true then
    (if e.pin.isSome then some { e with doom := some .purged } else none)
  else some e

/-- The Derived Key Cache's event for a PURGE (R66). -/
def ownPurge (issuer : Issuer) (base : Serial) (exponent : Byte) (s : State) : State × Answer :=
  let e := exponentTaken exponent
  if issuerValid issuer = false then (s, .refuse (.badField 0 0))
  else
    (s.setCache (s.cache.filterMap (CacheEntry.purged issuer base e)),
      .purged e (rangeFirst base e)
        (s.cache.countP fun x => x.purgeable issuer base e && x.pin.isNone)
        (s.cache.countP fun x => x.purgeable issuer base e && x.pin.isSome))

/-- PURGE (R66). -/
def execPurge (issuer : Issuer) (base : Serial) (exponent : Byte) (s : State) : Host.Outcome State Fault Refusal :=
  request (.purge issuer base exponent) (ownPurge issuer base exponent) s

/-! ### PREFETCH_EXPIRY (R70) -/

/-- Whether a job is the prefetch job of an enqueue sequence, not started and due to expire (R70). -/
def State.expires (s : State) (sequence : Nat) (j : Job) : Bool :=
  decide (j.sequence = sequence) && j.work.isPrefetch && !j.started && s.due (j.time + 1000)

/-- PREFETCH_EXPIRY (R70). -/
def execPrefetchExpiry (sequence : Nat) (s : State) : Host.Outcome State Fault Refusal :=
  event (fun s => s.cancelJobs (s.expires sequence)) s

end Sys2Proof.Machine
end

