-- ==== Sys2Proof/Machine/Clock.lean ====
section
/-! DEFINITION. The Lane Clock (09): TIME and LANE_TIME_TICK. -/

namespace Sys2Proof.Machine

/-- The largest lane time (R137). -/
def maxLaneTime : Nat := 281474976710655

/-- The Lane Clock's event for a TIME (R139, R140). -/
def ownTime (value : BitVec 48) (s : State) : State × Answer :=
  match s.clock.time with
  | none =>
    (s.setClock { s.clock with time := some value.toNat, debt := 0 }, .timeTaken .set value.toNat 0)
  | some now =>
    if now ≤ value.toNat then
      (s.setClock { s.clock with time := some value.toNat, debt := 0 }, .timeTaken .step value.toNat 0)
    else if now - value.toNat ≤ 2000 then
      (s.setClock { s.clock with debt := now - value.toNat }, .timeTaken .slew now (now - value.toNat))
    else (s, .refuse (.timeBackward now))

/-- TIME (R139). -/
def execTime (value : BitVec 48) (s : State) : Host.Outcome State Fault Refusal :=
  request (.time value) (ownTime value) s

/-- One advance of lane time: 1 ms of lane time in 1 ms of real time, or in 2 ms while a slew debt is absorbed (R138). The
time base counts the real milliseconds (log 5). Lane time stays at its largest value (log 16). -/
def LaneClock.tick (c : LaneClock) : LaneClock :=
  match c.time with
  | none => { c with base := c.base + 1 }
  | some now =>
    if maxLaneTime ≤ now then { c with base := c.base + 1 }
    else if c.debt = 0 then { time := some (now + 1), debt := 0, base := c.base + 1 }
    else { time := some (now + 1), debt := c.debt - 1, base := c.base + 2 }

/-- LANE_TIME_TICK (R138). -/
def execLaneTimeTick (s : State) : Host.Outcome State Fault Refusal :=
  event (fun s => s.setClock s.clock.tick) s

end Sys2Proof.Machine
end

