-- ==== Sys2Proof/Machine/Completion.lean ====
section
/-! DEFINITION. COLLECT (R168) and STATUS (R170). -/

namespace Sys2Proof.Machine

/-- The Completion Queue's event for a COLLECT (R168). -/
def ownCollect (count : Byte) (s : State) : State × Answer :=
  let n := collectTaken count
  (s.setQueue ⟨s.queue.records.drop n, false⟩,
    .collected (s.queue.records.take n) (s.queue.records.drop n).length s.queue.overflow)

/-- COLLECT (R168). -/
def execCollect (count : Byte) (s : State) : Host.Outcome State Fault Refusal :=
  request (.collect count) (ownCollect count) s

/-- STATUS (R170). A STATUS that came in a frame has its reply since the event that began it. -/
def execStatus (s : State) : Host.Outcome State Fault Refusal :=
  request .status (fun s => (s, .status s.report)) s

end Sys2Proof.Machine
end

