-- ==== Sys2Proof/Machine/Directory.lean ====
section
/-! DEFINITION. The Key Directory's commands (01): KEY_READ, KEY_WITHDRAW, WINDOW_END and PROVISIONING. -/

namespace Sys2Proof.Machine

/-- The Directory's event for a KEY_READ (R17). -/
def ownKeyRead (index : Byte) (s : State) : State × Answer :=
  match s.slots[index.toNat]? with
  | some ⟨some k, epoch, bound⟩ =>
    (s, .keyPresent index k.state k.issuer k.generation k.role k.notBefore k.notAfter k.checkValue epoch bound)
  | some ⟨none, _, _⟩ => (s, .keyAbsent index)
  | none => (s, .keyAbsent index)

/-- KEY_READ (R17). -/
def execKeyRead (index : Byte) (s : State) : Host.Outcome State Fault Refusal :=
  request (.keyRead index) (ownKeyRead index) s

/-- The slots that a KEY_WITHDRAW matches, in ascending index (R15). -/
def matchingSlots (slots : List Slot) (issuer : Issuer) (generation : Generation) (roles : Byte) : List Nat :=
  (List.range slots.length).filter fun i =>
    match slots[i]? with
    | some x =>
      (roles.getLsbD 0 && x.isFor issuer generation .auth) || (roles.getLsbD 1 && x.isFor issuer generation .seal)
    | none => false

/-- The Directory's event for a KEY_WITHDRAW (R15). -/
def ownKeyWithdraw (issuer : Issuer) (generation : Generation) (roles : Byte) (s : State) : State × Answer :=
  let found := matchingSlots s.slots issuer generation roles
  if issuerValid issuer = false then (s, .refuse (.badField 0 0))
  else if roles.toNat < 1 ∨ 3 < roles.toNat then (s, .refuse (.badField 3 0))
  else if found = [] then (s, .refuse (.noKey roles none generation))
  else (s.withdraw found, .withdrawn found (s.taintCount found))

/-- KEY_WITHDRAW (R15). -/
def execKeyWithdraw (issuer : Issuer) (generation : Generation) (roles : Byte) (s : State) :
    Host.Outcome State Fault Refusal :=
  request (.keyWithdraw issuer generation roles) (ownKeyWithdraw issuer generation roles) s

/-- Whether the window of a slot has ended (R16). -/
def Slot.windowEnded (second : Nat) (x : Slot) : Bool :=
  match x.held with
  | some k => decide (k.notAfter.toNat ≤ second)
  | none => false

/-- The slots whose window-end events are due, in ascending index (R16). -/
def State.endedSlots (s : State) : List Nat :=
  match s.clock.time with
  | none => []
  | some now =>
    (List.range s.slots.length).filter fun i =>
      match s.slots[i]? with
      | some x => x.windowEnded (now / 1000)
      | none => false

/-- WINDOW_END (R16): all slots that are due, in one withdrawal event. -/
def execWindowEnd (s : State) : Host.Outcome State Fault Refusal :=
  event (fun s => if s.endedSlots = [] then s else s.withdraw s.endedSlots) s

/-- PROVISIONING (R18, R20): the factory installs a transport key with its check value and clears the ZEROIZED mark
(log 14). -/
def execProvisioning (key : Key) (s : State) : Host.Outcome State Fault Refusal :=
  .next ((s.setTransport (some ⟨key, checkValueOf key⟩)).setZeroizedMark false)

end Sys2Proof.Machine
end

