-- ==== Sys2Proof/Machine/Staging.lean ====
section
/-! DEFINITION. The Key Set Stager (02): STAGE_BEGIN, STAGE_CHUNK, STAGE_COMMIT, STAGE_ABANDON, and the completion of a
commit. -/

namespace Sys2Proof.Machine

/-! ### Collecting the image -/

/-- The Stager's event for a STAGE_BEGIN (R23). -/
def ownStageBegin (declared : BitVec 16) (imageId : BitVec 32) (s : State) : State × Answer :=
  match s.stager with
  | .committing _ => (s, .refuse .busy)
  | .receiving _ =>
    if imageLength declared.toNat = false then (s, .refuse (.badField 0 0))
    else (s.setStager (.receiving ⟨declared.toNat, imageId, []⟩), .stageBegun (recordCount declared.toNat) true)
  | .idle =>
    if imageLength declared.toNat = false then (s, .refuse (.badField 0 0))
    else (s.setStager (.receiving ⟨declared.toNat, imageId, []⟩), .stageBegun (recordCount declared.toNat) false)

/-- STAGE_BEGIN (R23). -/
def execStageBegin (declared : BitVec 16) (imageId : BitVec 32) (s : State) : Host.Outcome State Fault Refusal :=
  request (.stageBegin declared imageId) (ownStageBegin declared imageId) s

/-- The Stager's event for a STAGE_CHUNK (R24). A chunk of no bytes or of more than 240 never reaches it: the Lane Link
refuses it (log 28). -/
def ownStageChunk (offset : BitVec 16) (bytes : List Byte) (s : State) : State × Answer :=
  match s.stager with
  | .idle => (s, .refuse .stagingIdle)
  | .committing _ => (s, .refuse .busy)
  | .receiving l =>
    if offset.toNat ≠ l.buffer.length then (s, .refuse (.outOfSequence l.buffer.length))
    else if l.declared < offset.toNat + bytes.length then (s, .refuse (.overlength l.declared l.buffer.length))
    else (s.setStager (.receiving { l with buffer := l.buffer ++ bytes }), .chunkTaken (l.buffer.length + bytes.length))

/-- STAGE_CHUNK (R24). The length of the body is checked before the service state (R163). -/
def execStageChunk (offset : BitVec 16) (bytes : List Byte) (s : State) : Host.Outcome State Fault Refusal :=
  if (Instr.stageChunk offset bytes).wellFormed = true then
    request (.stageChunk offset bytes) (ownStageChunk offset bytes) s
  else event (fun s => s.answered (.stageChunk offset bytes) (.refuse (.badLength (BitVec.ofNat 8 (bytes.length + 2))))) s

/-- The Stager's event for a STAGE_ABANDON (R25). -/
def ownStageAbandon (s : State) : State × Answer :=
  match s.stager with
  | .idle => (s, .abandoned 0)
  | .receiving l => (s.setStager .idle, .abandoned l.buffer.length)
  | .committing _ => (s, .refuse .busy)

/-- STAGE_ABANDON (R25). -/
def execStageAbandon (s : State) : Host.Outcome State Fault Refusal :=
  request .stageAbandon ownStageAbandon s

/-! ### The checks of a commit (R27, R28) -/

/-- Whether the header of an image is at fault (R27). -/
def headerFault (l : Load) : Bool :=
  decide (fieldAt l.buffer 4 1 ≠ recordCount l.declared) || decide (fieldAt l.buffer 5 1 ≠ 1)
    || decide (fieldAt l.buffer 0 4 ≠ l.imageId.toNat)

/-- Whether a record of an image is at fault (R27). -/
def ImageRecord.fault (r : ImageRecord) : Bool :=
  !issuerValid r.issuer || !(decide (r.role = 1) || decide (r.role = 2)) || !(decide (r.initial = 0) || decide (r.initial = 1))
    || decide (r.notAfter.toNat ≤ r.notBefore.toNat)

/-- The first fault of an image: none, a header fault (none within), or the index of the faulty record (R27). -/
def imageFault (l : Load) : Option (Option Nat) :=
  if headerFault l = true then some none else (l.records.findIdx? ImageRecord.fault).map some

/-- Whether two records name the same master key (R28). -/
def ImageRecord.sameTriple (a b : ImageRecord) : Bool :=
  decide (a.issuer = b.issuer) && decide (a.generation = b.generation) && decide (a.roleOf = b.roleOf)

/-- The conflict of a record with the earlier records of its image or with the Directory: none, a conflict within the image
(none within), or the index of the slot. The conditions are examined in the order of R28 (log 17). -/
def ImageRecord.conflict (slots : List Slot) (earlier : List ImageRecord) (r : ImageRecord) : Option (Option Nat) :=
  if earlier.any (ImageRecord.sameTriple r) = true then some none
  else
    match findSlot slots r.issuer r.generation r.roleOf with
    | some i => some (some i)
    | none =>
      if r.isActiveSeal = true then
        if (earlier.any fun e => e.isActiveSeal && decide (e.issuer = r.issuer)) = true then some none
        else
          match activeSeal slots r.issuer with
          | some i => some (some i)
          | none => none
      else none

/-- The first conflicting record of an image, by index, with the slot it conflicts with (R28). -/
def firstConflict (slots : List Slot) (earlier : List ImageRecord) : List ImageRecord → Option (Nat × Option Nat)
  | [] => none
  | r :: rest =>
    match r.conflict slots earlier with
    | some slot => some (earlier.length, slot)
    | none => firstConflict slots (earlier ++ [r]) rest

/-- The operations of the keyset job of n records (R30, R114). -/
def keysetOperations (n : Nat) : List Operation :=
  (List.range n).flatMap fun k => [.unwrap k, .check k]

/-- The effective deadline of a keyset job (R29). -/
def State.keysetDeadline (s : State) : Nat :=
  match s.clock.time with
  | some now => now + 250
  | none => 0

/-- Checks 2 to 5 of a commit whose image is complete, and its start (R26 to R29). -/
def State.commit (s : State) (l : Load) (crc : BitVec 32) : State × Answer :=
  let ended := s.setStager .idle
  let n := recordCount l.declared
  let computed := crc32 (l.buffer.take l.declared)
  if computed ≠ crc then (ended, .refuse (.imageCrc computed))
  else
    match imageFault l with
    | some record => (ended, .refuse (.badImage record))
    | none =>
      match firstConflict s.slots [] l.records with
      | some (k, slot) => (ended, .refuse (.conflict k slot))
      | none =>
        if emptySlots s.slots < n then (ended, .refuse (.directoryFull n (emptySlots s.slots)))
        else
          (((s.setStager (.committing l)).place (.keyset l [] []) (keysetOperations n) s.keysetDeadline).arbitrate,
            .commitStarted n (2 * n))

/-- The Stager's event for a STAGE_COMMIT (R26 to R29). -/
def ownStageCommit (crc : BitVec 32) (s : State) : State × Answer :=
  match s.stager with
  | .idle => (s, .refuse .stagingIdle)
  | .committing _ => (s, .refuse .busy)
  | .receiving l =>
    if l.buffer.length < l.declared then (s, .refuse (.incomplete l.buffer.length l.declared))
    else s.commit l crc

/-- STAGE_COMMIT (R26). -/
def execStageCommit (crc : BitVec 32) (s : State) : Host.Outcome State Fault Refusal :=
  request (.stageCommit crc) (ownStageCommit crc) s

/-! ### The completion of a commit (R31 to R34) -/

/-- What a slot takes at install (R33). -/
def Slot.install (x : Slot) (r : ImageRecord) (key : Key) : Slot where
  held := some ⟨r.stateOf, r.issuer, r.generation, r.roleOf, r.notBefore, r.notAfter, key, r.checkValue⟩
  epoch := x.epoch + 1
  bound := 0

/-- The install of records with their keys into the lowest EMPTY slots in image order: the slots, and the indices taken
(R33). -/
def installEach (slots : List Slot) : List (ImageRecord × Key) → List Slot × List Nat
  | [] => (slots, [])
  | (r, key) :: rest =>
    match slots.findIdx? Slot.isEmpty with
    | none => (slots, [])
    | some i =>
      let after := installEach (slots.modify i fun x => x.install r key) rest
      (after.1, i :: after.2)

/-- The outcome of a commit whose keyset job has run its last operation (R31 to R34). -/
def State.completeCommit (s : State) (l : Load) (keys : List Key) (results : List Bool) : State :=
  let ended := s.setStager .idle
  match results.findIdx? (fun ok => !ok) with
  | some k => ended.post (.commitFailed l.imageId (BitVec.ofNat 8 k))
  | none =>
    if (firstConflict s.slots [] l.records).isNone ∧ recordCount l.declared ≤ emptySlots s.slots then
      let installed := installEach s.slots (l.records.zip keys)
      (ended.setSlots installed.1).post (.committed l.imageId installed.2)
    else ended.post (.commitFailed l.imageId (Config.recheckIndex l.imageId))

end Sys2Proof.Machine
end

