-- ==== Sys2Proof/Machine/Engine.lean ====
section
/-! DEFINITION. The Cipher Engine (07, 08): OPERATION_COMPLETE, SELFTEST and SELFTEST_END. -/

namespace Sys2Proof.Machine

/-! ### What a completed operation hands to its owner (R119) -/

/-- A completed operation of a context's own job lowers its reserved operations by 1 (R102). -/
def Context.spend (c : Context) : Context := { c with reserved := c.reserved - 1 }

/-- Applies a step to the context that a job serves (R119). -/
def State.forOwner (s : State) (h : Handle) (step : Nat → Context → State → State) : State :=
  match s.resolveHandle h with
  | some (i, c) => step i c s
  | none => s

/-- The insertion of a lane job's derivation, pinned to its context, whose reserved operations fall by 1 (R61, R119). -/
def State.laneDerivation (s : State) (h : Handle) (op : Operation) (masterKey : Option Key) : State :=
  match op with
  | .derive role generation slot epoch =>
    s.forOwner h fun i c s =>
      (s.insert c.issuer c.serial generation role slot epoch (some h) masterKey).updateContext i Context.spend
  | _ => s

/-- The completion of the reader proof (R79, R131). -/
def State.finishProof (s : State) (h : Handle) : State :=
  s.forOwner h fun i c s =>
    (s.updateContext i fun c => { c.spend with state := .live .awaitTag }).post
      (.opened h c.lane c.challenge (readerProofOf (pinnedKey s.cache h .auth) c.nonce c.challenge))

/-- The completion of the expected tag proof: a match or a difference (R81, R132). -/
def State.finishTagProof (s : State) (h : Handle) (proof : Half) : State :=
  s.forOwner h fun i c s =>
    if tagProofOf (pinnedKey s.cache h .auth) c.nonce c.challenge = proof then
      ((s.updateContext i fun c => { c.spend with state := .live .authenticated }).releasePin h .auth).post (.verified h c.lane)
    else s.failContext i .authMismatch true

/-- The completion of the first seal block: C1 stays with the job (R134). -/
def State.finishSealFirst (s : State) (h : Handle) : State :=
  s.forOwner h fun i _ s => s.updateContext i Context.spend

/-- The first seal block C1 (R134). -/
def sealFirstBlock (k : Key) (r : SealRecord) : Block := encipher k (sealBlock1 r)

/-- The seal that the second seal block gives (R134). -/
def sealOf (k : Key) (first : Block) (r : SealRecord) : Half := firstHalf (encipher k (first ^^^ sealBlock2 r))

/-- The completion of the second seal block: the context is SEALED (R83, R134). -/
def State.finishSeal (s : State) (h : Handle) (r : SealRecord) (first : Option Block) : State :=
  s.forOwner h fun i c s =>
    let result := sealOf (pinnedKey s.cache h .seal) (first.getD 0) r
    ((s.updateContext i fun c => { c with state := .sealed r.stamp result, reserved := 0 }).releasePin h .seal).post
      (.sealed h c.lane r.stamp c.sealGeneration result)

/-- A prefetch job's derivation, inserted unpinned (R69). -/
def State.prefetchDerivation (s : State) (issuer : Issuer) (serial : Serial) (op : Operation) (masterKey : Option Key) :
    State :=
  match op with
  | .derive role generation slot epoch => s.insert issuer serial generation role slot epoch none masterKey
  | _ => s

/-- The key that an unwrap gives, under the transport key (R135). -/
def State.unwrapped (s : State) (l : Load) (k : Nat) : Key :=
  decipher ((s.transport.map (·.key)).getD Config.absentKey) (imageRecord l.buffer k).wrapped

/-- Whether a record's key matches its check value (R135). -/
def checkMatches (l : Load) (keys : List Key) (k : Nat) : Bool :=
  decide (checkValueOf (keys.getD k Config.absentKey) = (imageRecord l.buffer k).checkValue)

/-- The carried data of a job after an operation (R114). -/
def State.workAfter (s : State) (work : Work) (op : Operation) : Work :=
  match work, op with
  | .sealing h r _, .sealFirst => .sealing h r (some (sealFirstBlock (pinnedKey s.cache h .seal) r))
  | .keyset l keys results, .unwrap k => .keyset l (keys ++ [s.unwrapped l k]) results
  | .keyset l keys results, .check k => .keyset l keys (results ++ [checkMatches l keys k])
  | w, _ => w

/-- What the completion of an operation does to the job's owner and to the cache, the keyset job's last operation apart
(R119). -/
def State.handOver (s : State) (work : Work) (op : Operation) (masterKey : Option Key) : State :=
  match work with
  | .opening h _ _ _ _ =>
    match op with
    | .readerProof => s.finishProof h
    | _ => s.laneDerivation h op masterKey
  | .verifying h proof => s.finishTagProof h proof
  | .sealing h r first =>
    match op with
    | .sealFirst => s.finishSealFirst h
    | .sealSecond => s.finishSeal h r first
    | _ => s.laneDerivation h op masterKey
  | .prefetch issuer serial => s.prefetchDerivation issuer serial op masterKey
  | .keyset _ _ _ => s

/-- The commit completes with the keyset job's last operation (R31). -/
def State.endKeyset (s : State) (work : Work) : State :=
  match work with
  | .keyset l keys results => s.completeCommit l keys results
  | .opening _ _ _ _ _ => s
  | .verifying _ _ => s
  | .sealing _ _ _ => s
  | .prefetch _ _ => s

/-! ### OPERATION_COMPLETE (R119 to R122) -/

/-- A unit becomes FREE (R119). -/
def State.freeUnit (s : State) (name : UnitName) : State := s.setUnit name { s.unit name with activity := .free }

/-- The job of an enqueue sequence, unless it has been cancelled (R120). -/
def findJob (jobs : List Job) (sequence : Nat) : Option Job := jobs.find? fun j => decide (j.sequence = sequence)

/-- The last operation of a job completes: the job leaves the Work Queue, its owner completes its step, the unit becomes
FREE and the arbiter hands out jobs (R119). -/
def State.lastOperation (s : State) (name : UnitName) (j : Job) (op : Operation) (masterKey : Option Key) : State :=
  let ended := s.setJobs (s.jobs.filter fun x => !decide (x.sequence = j.sequence))
  ((((ended.handOver j.work op masterKey).endKeyset (s.workAfter j.work op)).freeUnit name)).arbitrate

/-- A job after an operation that is not its last: its carried data and the operations still to run (R114). -/
def State.advanceJob (s : State) (op : Operation) (j : Job) : Job :=
  { j with work := s.workAfter j.work op, operations := j.operations.tail }

/-- An operation that is not the last of its job completes: the unit begins the next one, or it has stopped serving and
the job returns to waiting (R119, R121, R122). -/
def State.middleOperation (s : State) (name : UnitName) (j : Job) (op : Operation) (rest : List Operation)
    (masterKey : Option Key) : State :=
  let handed := s.handOver j.work op masterKey
  if (s.unit name).serves s.suspended = true then
    (handed.setJobs (updateJob handed.jobs j.sequence (s.advanceJob op))).setUnit name
      { s.unit name with activity := .running j.sequence (masterKeyFor handed.slots rest.head?) }
  else
    ((handed.setJobs (updateJob handed.jobs j.sequence fun x => { s.advanceJob op x with running := false })).freeUnit name).arbitrate

/-- A block operation completes on a unit (R119). -/
def State.operationComplete (name : UnitName) (s : State) : State :=
  match (s.unit name).activity with
  | .running sequence masterKey =>
    match findJob s.jobs sequence with
    | none => (s.freeUnit name).arbitrate
    | some j =>
      match j.operations with
      | [] => (s.freeUnit name).arbitrate
      | [op] => s.lastOperation name j op masterKey
      | op :: next :: rest => s.middleOperation name j op (next :: rest) masterKey
  | .free => s
  | .testing => s

/-- OPERATION_COMPLETE (R119). -/
def execOperationComplete (unit : UnitName) (s : State) : Host.Outcome State Fault Refusal :=
  event (State.operationComplete unit) s

/-! ### Self-test (R123 to R125) -/

/-- The Cipher Engine's event for a SELFTEST (R125). -/
def ownSelftest (s : State) : State × Answer :=
  if s.service ≠ .serviceOff then (s, .refuse .serviceState)
  else if s.suspended = true then (s, .refuse .thermal)
  else if s.jobs ≠ [] ∨ s.u0.isFree = false ∨ s.u1.isFree = false then (s, .refuse .busy)
  else (s.beginTest .request, .selftestBegun)

/-- SELFTEST (R125). -/
def execSelftest (s : State) : Host.Outcome State Fault Refusal :=
  request .selftest ownSelftest s

/-- The output of the first test operation of a unit: E of the stored test block under the stored test key, with the bits
that the unit's fault inverts (R123). -/
def testForward (f : UnitFault) : Block := encipher Config.testKey Config.testBlock ^^^ f.forward

/-- The output of the second test operation of a unit: E⁻¹ of the stored expected output under the same key, with the bits
that the unit's fault inverts (R123). -/
def testInverse (f : UnitFault) : Block := decipher Config.testKey Config.testOutput ^^^ f.inverse

/-- Whether a unit passes: its first result equals the stored expected output and its second the stored test block (R123). -/
def passesTest (f : UnitFault) : Bool :=
  decide (testForward f = Config.testOutput) && decide (testInverse f = Config.testBlock)

/-- A unit after a self-test (R123). -/
def CipherUnit.tested (u : CipherUnit) (pass : Bool) : CipherUnit :=
  { u with health := if pass then .good else .failed, activity := .free }

/-- The service state after a self-test (R124, R125). -/
def serviceAfterTest (service : ServiceState) (origin : TestOrigin) (pass0 pass1 : Bool) : ServiceState :=
  if (!pass0 && !pass1) = true then .halted
  else
    match origin with
    | .startUp => .serviceOff
    | .request => service

/-- The end of the self-test in progress: each unit's two results are compared with the stored answers, and the outcome takes
effect (R123). -/
def State.endTest (fault0 fault1 : UnitFault) (s : State) : State :=
  match s.test with
  | none => s
  | some origin =>
    (((((s.setTest none).setU0 (s.u0.tested (passesTest fault0))).setU1 (s.u1.tested (passesTest fault1))).setService
      (serviceAfterTest s.service origin (passesTest fault0) (passesTest fault1))).post
        (.selftestDone origin (passesTest fault0) (passesTest fault1))).arbitrate

/-- SELFTEST_END (R123). -/
def execSelftestEnd (fault0 fault1 : UnitFault) (s : State) : Host.Outcome State Fault Refusal :=
  event (State.endTest fault0 fault1) s

end Sys2Proof.Machine
end

