-- ==== Sys2Proof/Machine/Resets.lean ====
section
/-! DEFINITION. Supply, resets and zeroize (09 R148 to R151): POWER_ON, SUPPLY_LOSS, RESET_N_LOW, RESET_END and ZEROIZE. -/

namespace Sys2Proof.Machine

/-- POWER_ON (R149): supply reaches its working level and a power-on reset begins. -/
def execPowerOn (s : State) : Host.Outcome State Fault Refusal :=
  .next (if s.power = .noSupply then s.beginReset else s)

/-- SUPPLY_LOSS (R149): the part's work ends at once and the volatile state is lost. -/
def execSupplyLoss (s : State) : Host.Outcome State Fault Refusal :=
  .next (s.clearVolatile.setPower .noSupply)

/-- RESET_N_LOW (R149): the part is in reset until RESET_END. Without supply there is nothing to reset. -/
def execResetNLow (s : State) : Host.Outcome State Fault Refusal :=
  .next (if s.power = .noSupply then s else s.beginReset)

/-- The end of a reset (R148, R151): the volatile state stands at its reset values, the straps are read, and the part enters
ZEROIZED, or STARTING with its start-up test begun (R124). -/
def State.endReset (s : State) (rate1 rate0 : Bool) : State :=
  let out := (s.clearVolatile.setPower .running).setStraps (rate1, rate0)
  if s.zeroizedMark = true then out.setService .zeroized else out.beginTest .startUp

/-- RESET_END (R148). -/
def execResetEnd (rate1 rate0 : Bool) (s : State) : Host.Outcome State Fault Refusal :=
  .next (if s.power = .inReset then s.endReset rate1 rate0 else s)

/-- The zeroize event (R150, R20, R37, R72, R97, R126). -/
def State.zeroized (s : State) : State :=
  { s with
    service := .zeroized
    slots := List.replicate 64 Slot.blank
    transport := none
    zeroizedMark := true
    stager := .idle
    rollovers := []
    cache := []
    places := List.replicate 48 Place.fresh
    u0 := { s.u0 with activity := .free }
    u1 := { s.u1 with activity := .free }
    test := none
    jobs := []
    queue := ⟨[], false⟩ }

/-- ZEROIZE (R150): taken in every service state and in reset; without supply nothing watches TAMPER_N (log 26). -/
def execZeroize (s : State) : Host.Outcome State Fault Refusal :=
  .next (if s.power = .noSupply then s else s.zeroized)

end Sys2Proof.Machine
end

