-- ==== Sys2Proof/Machine/Scheduler.lean ====
section
/-! DEFINITION. The Rollover Scheduler (03): ROLLOVER, ROLLBACK and PHASE_DUE. -/

namespace Sys2Proof.Machine

/-- The rollover record of an issuer (R38). -/
def findRollover (records : List Rollover) (issuer : Issuer) : Option Rollover :=
  records.find? fun r => decide (r.issuer = issuer)

/-- A record joins the others, in ascending issuer code (R38, R14). -/
def addRollover (r : Rollover) : List Rollover → List Rollover
  | [] => [r]
  | x :: rest => if r.issuer.toNat < x.issuer.toNat then r :: x :: rest else x :: addRollover r rest

/-- The records without an issuer's. -/
def removeRollover (records : List Rollover) (issuer : Issuer) : List Rollover :=
  records.filter fun r => !decide (r.issuer = issuer)

/-! ### ROLLOVER (R40 to R43) -/

/-- One slot of check 5 of R40: the slot of a triple, in a required state (R41). -/
def requireSlot (slots : List Slot) (issuer : Issuer) (generation : Generation) (role : Role) (required : KeyState) :
    Except Refuse Nat :=
  match findSlot slots issuer generation role with
  | none => .error (.noKey (roleCode role) none generation)
  | some i =>
    match heldAt slots i with
    | none => .error (.noKey (roleCode role) none generation)
    | some k => if k.state = required then .ok i else .error (.slotState i k.state k.generation k.role)

/-- The start as taken: not earlier than the present lane second (R42). -/
def startTaken (second : Nat) (start : BitVec 32) : Nat := if start.toNat < second then second else start.toNat

/-- Check 2 of R40: the offset of the field at fault. -/
def rolloverFieldFault (issuer : Issuer) (a b : Generation) (d1 d2 d3 : BitVec 16) (p4 : Nat) : Option Byte :=
  if issuerValid issuer = false then some 0
  else if a = b then some 3
  else if 10080 < d1.toNat then some 8
  else if 10080 < d2.toNat then some 10
  else if 10080 < d3.toNat then some 12
  else if 4294967295 < p4 then some 4
  else none

/-- Check 5 of R40: the four slots, in the order A AUTH, A SEAL, B AUTH, B SEAL (R41). -/
def rolloverSlots (slots : List Slot) (issuer : Issuer) (a b : Generation) : Except Refuse (Nat × Nat × Nat × Nat) :=
  match requireSlot slots issuer a .auth .active with
  | .error r => .error r
  | .ok aAuth =>
    match requireSlot slots issuer a .seal .active with
    | .error r => .error r
    | .ok aSeal =>
      match requireSlot slots issuer b .auth .standby with
      | .error r => .error r
      | .ok bAuth =>
        match requireSlot slots issuer b .seal .standby with
        | .error r => .error r
        | .ok bSeal => .ok (aAuth, aSeal, bAuth, bSeal)

/-- Checks 3 to 5 of R40, and the record that they let through (R43). -/
def State.planRollover (s : State) (issuer : Issuer) (a b : Generation) (p1 p2 p3 p4 : Nat) : Except Refuse Rollover :=
  match findRollover s.rollovers issuer with
  | some r => .error (.rolloverConflict r.a r.b r.reached)
  | none =>
    if 8 ≤ s.rollovers.length then .error .rolloverFull
    else
      match rolloverSlots s.slots issuer a b with
      | .error r => .error r
      | .ok (aAuth, aSeal, bAuth, bSeal) => .ok ⟨issuer, a, b, aAuth, aSeal, bAuth, bSeal, p1, p2, p3, p4, 0⟩

/-- The Scheduler's event for a ROLLOVER (R40 to R43). -/
def ownRollover (issuer : Issuer) (a b : Generation) (start : BitVec 32) (d1 d2 d3 : BitVec 16) (s : State) :
    State × Answer :=
  match s.clock.time with
  | none => (s, .refuse .noTime)
  | some now =>
    let p1 := startTaken (now / 1000) start
    let p2 := p1 + 60 * d1.toNat
    let p3 := p2 + 60 * d2.toNat
    let p4 := p3 + 60 * d3.toNat
    match rolloverFieldFault issuer a b d1 d2 d3 p4 with
    | some offset => (s, .refuse (.badField offset 0))
    | none =>
      match s.planRollover issuer a b p1 p2 p3 p4 with
      | .error r => (s, .refuse r)
      | .ok r =>
        (s.setRollovers (addRollover r s.rollovers),
          .rolloverPlanned r.p1 r.p2 r.p3 r.p4 r.aAuth r.aSeal r.bAuth r.bSeal)

/-- ROLLOVER (R40). -/
def execRollover (issuer : Issuer) (a b : Generation) (start : BitVec 32) (d1 d2 d3 : BitVec 16) (s : State) :
    Host.Outcome State Fault Refusal :=
  request (.rollover issuer a b start d1 d2 d3) (ownRollover issuer a b start d1 d2 d3) s

/-! ### Phases (R44 to R48) -/

/-- The scheduled time of the next phase of a record (R44). -/
def Rollover.nextTime (r : Rollover) : Nat :=
  if r.reached = 0 then r.p1 else if r.reached = 1 then r.p2 else if r.reached = 2 then r.p3 else r.p4

/-- The slot changes of the next phase of a record, for phases 1 to 3 (R45 to R47). -/
def Rollover.advanceSlots (r : Rollover) (slots : List Slot) : List Slot :=
  if r.reached = 0 then setKeyState slots r.bAuth .active
  else if r.reached = 1 then setKeyState (setKeyState slots r.bSeal .active) r.aSeal .draining
  else setKeyState slots r.aAuth .draining

/-- The slots that phase 4 of a record withdraws: A AUTH and A SEAL, where they are not EMPTY (R48). -/
def Rollover.retiring (r : Rollover) (slots : List Slot) : List Nat :=
  [r.aAuth, r.aSeal].filter fun i => (heldAt slots i).isSome

/-- The next phase of a record is applied (R45 to R48). -/
def State.applyPhase (s : State) (r : Rollover) : State :=
  let applied := CompletionRecord.rolloverPhase r.issuer r.a r.b (r.reached + 1) .applied r.nextTime
  if r.reached < 3 then
    ((s.setSlots (r.advanceSlots s.slots)).setRollovers
      (s.rollovers.map fun x => if x.issuer = r.issuer then { x with reached := x.reached + 1 } else x)).post applied
  else ((s.setRollovers (removeRollover s.rollovers r.issuer)).withdraw (r.retiring s.slots)).post applied

/-- The next phase of an issuer's record, if it is due (R44). -/
def State.phaseDue (issuer : Issuer) (s : State) : State :=
  match findRollover s.rollovers issuer with
  | some r => if s.due (r.nextTime * 1000) = true then s.applyPhase r else s
  | none => s

/-- PHASE_DUE (R44). -/
def execPhaseDue (issuer : Issuer) (s : State) : Host.Outcome State Fault Refusal :=
  event (State.phaseDue issuer) s

/-! ### ROLLBACK (R51) -/

/-- The slot changes that undo the phases reached, in reverse order (R51). -/
def Rollover.undoSlots (r : Rollover) (slots : List Slot) : List Slot :=
  let undone3 := if 3 ≤ r.reached then setKeyState slots r.aAuth .active else slots
  let undone2 := if 2 ≤ r.reached then setKeyState (setKeyState undone3 r.bSeal .standby) r.aSeal .active else undone3
  if 1 ≤ r.reached then setKeyState undone2 r.bAuth .standby else undone2

/-- The Scheduler's event for a ROLLBACK (R51). -/
def ownRollback (issuer : Issuer) (s : State) : State × Answer :=
  if issuerValid issuer = false then (s, .refuse (.badField 0 0))
  else
    match findRollover s.rollovers issuer with
    | none => (s, .refuse .noRollover)
    | some r =>
      (((s.setSlots (r.undoSlots s.slots)).setRollovers (removeRollover s.rollovers issuer)).post
        (.rolloverPhase issuer r.a r.b r.reached .rolledBack 0), .rolledBack r.a r.b r.reached)

/-- ROLLBACK (R51). -/
def execRollback (issuer : Issuer) (s : State) : Host.Outcome State Fault Refusal :=
  request (.rollback issuer) (ownRollback issuer) s

end Sys2Proof.Machine
end

