-- ==== Sys2Proof/Machine/Service.lean ====
section
/-! DEFINITION. The Service Controller's requests (09): LANES, CONFIG, SERVICE on, SERVICE off and RESTART. -/

namespace Sys2Proof.Machine

/-! ### LANES (R143, R89) -/

/-- The live contexts of the lanes of a mask, by ascending index (R89). -/
def State.liveOnLanes (s : State) (lanes : Byte) : List Nat :=
  s.indicesWhere fun c => c.isLive && laneEnabled lanes c.lane

/-- The Service Controller's event for a LANES (R143, R89). -/
def ownLanes (setMask clearMask : Byte) (s : State) : State × Answer :=
  if setMask &&& clearMask ≠ 0 then (s, .refuse (.badField 0 (setMask &&& clearMask)))
  else
    let mask := (s.mask &&& ~~~clearMask) ||| setMask
    ((s.setMask mask).failEach (s.liveOnLanes (s.mask &&& ~~~mask)) .laneOff, .lanes mask)

/-- LANES (R143). -/
def execLanes (setMask clearMask : Byte) (s : State) : Host.Outcome State Fault Refusal :=
  request (.lanes setMask clearMask) (ownLanes setMask clearMask) s

/-! ### CONFIG (R144) -/

/-- The Service Controller's event for a CONFIG (R144, R157). -/
def ownConfig (gantry : BitVec 16) (quota margin hot cool faultCode : Byte) (s : State) : State × Answer :=
  let taken := settingsTaken gantry quota margin hot cool faultCode
  (s.setSettings taken, .configured taken)

/-- CONFIG (R144). -/
def execConfig (gantry : BitVec 16) (quota margin hot cool faultCode : Byte) (s : State) :
    Host.Outcome State Fault Refusal :=
  request (.config gantry quota margin hot cool faultCode) (ownConfig gantry quota margin hot cool faultCode) s

/-! ### SERVICE (R146, R90) -/

/-- The Service Controller's event for a SERVICE on (R146). Only SERVICE_OFF has an event that leads to SERVICE_ON (R145); in
another state it has no effect (log 31). -/
def ownServiceOn (s : State) : State × Answer :=
  if s.service = .serviceOff then
    if s.test.isSome = true then (s, .refuse .busy)
    else if s.clock.time.isNone = true then (s, .refuse .noTime)
    else (s.setService .serviceOn, .service .serviceOn 0)
  else (s, .service s.service 0)

/-- SERVICE on (R146). -/
def execServiceOn (s : State) : Host.Outcome State Fault Refusal :=
  request .serviceOn ownServiceOn s

/-- The live contexts by ascending index (R90). -/
def State.liveIndices (s : State) : List Nat := s.indicesWhere Context.isLive

/-- The Service Controller's event for a SERVICE off (R146, R90, R71). -/
def ownServiceOff (s : State) : State × Answer :=
  if s.service = .serviceOn then
    ((((s.setService .serviceOff).failEach s.liveIndices .serviceOff).cancelJobs fun j => j.work.isPrefetch),
      .service .serviceOff s.liveIndices.length)
  else (s, .service s.service 0)

/-- SERVICE off (R146). -/
def execServiceOff (s : State) : Host.Outcome State Fault Refusal :=
  request .serviceOff ownServiceOff s

/-! ### RESTART (R149) -/

/-- RESTART (R149): accepted; the reset begins when its reply has been sent in full. -/
def execRestart (s : State) : Host.Outcome State Fault Refusal :=
  request .restart (fun s => (s.setRestarting true, .restarting)) s

end Sys2Proof.Machine
end

