-- ==== Sys2Proof/Machine/ThermalMonitor.lean ====
section
/-! DEFINITION. The Thermal Monitor (10): THERMAL_READING. -/

namespace Sys2Proof.Machine

/-- A count that rises, and stays at 255, or is set to 0 (R153). -/
def countAfter (rises : Bool) (count : Nat) : Nat := if rises then (if count < 255 then count + 1 else count) else 0

/-- The hot count after a reading (R153). -/
def Thermal.hotAfter (t : Thermal) (x : Settings) (reading : Int) : Nat :=
  countAfter (decide ((x.hot : Int) < reading)) t.hotCount

/-- The limit count after a reading; LIMIT is 115 (R152, R153). -/
def Thermal.limitAfter (t : Thermal) (reading : Int) : Nat := countAfter (decide (115 ≤ reading)) t.limitCount

/-- The thermal state that a reading decides, after the counts have changed (R154). -/
def Thermal.stateAfter (t : Thermal) (x : Settings) (reading : Int) : ThermalState :=
  if 2 ≤ t.limitAfter reading ∧ t.state ≠ .suspended then .suspended
  else if reading ≤ (x.cool : Int) ∧ t.state ≠ .normal then .normal
  else if x.faultCount ≤ t.hotAfter x reading ∧ t.state = .normal then .throttled
  else t.state

/-- The effect of a thermal state on the engine, in the event that changes it (R155). -/
def State.actOnEngine (s : State) (state : ThermalState) : State :=
  match state with
  | .normal => ((s.setSuspended false).setU1 { s.u1 with placement := .inService }).arbitrate
  | .throttled => s.setU1 { s.u1 with placement := .parked }
  | .suspended => (s.setSuspended true).setU1 { s.u1 with placement := .parked }

/-- A reading of the die temperature (R153 to R155). -/
def State.takeReading (celsius : Int) (s : State) : State :=
  let reading := readingTaken celsius
  let after := s.thermal.stateAfter s.settings reading
  let read := s.setThermal
    ⟨some reading, s.thermal.hotAfter s.settings reading, s.thermal.limitAfter reading, after⟩
  if after = s.thermal.state then read
  else (read.actOnEngine after).post (.thermal s.thermal.state after reading)

/-- THERMAL_READING (R153). -/
def execThermalReading (celsius : Int) (s : State) : Host.Outcome State Fault Refusal :=
  event (State.takeReading celsius) s

end Sys2Proof.Machine
end

