-- ==== Sys2Proof/Machine/Dispatch.lean ====
section
/-! DEFINITION. The command dispatch: one arm for each row of spec/opcode_table.json, in the table's order. -/

namespace Sys2Proof.Machine

def exec (i : Instr) (s : State) : Host.Outcome State Fault Refusal :=
  match i with
  | .frameReceived last => Sys2Proof.Machine.execFrameReceived last s
  | .frameGapTimeout => Sys2Proof.Machine.execFrameGapTimeout s
  | .replyComplete => Sys2Proof.Machine.execReplyComplete s
  | .openTag lane issuer serial generation nonce dwell => Sys2Proof.Machine.execOpen lane issuer serial generation nonce dwell s
  | .verify handle proof => Sys2Proof.Machine.execVerify handle proof s
  | .sealTag handle vehicleClass charge sequence => Sys2Proof.Machine.execSeal handle vehicleClass charge sequence s
  | .close handle => Sys2Proof.Machine.execClose handle s
  | .query handle => Sys2Proof.Machine.execQuery handle s
  | .prefetch issuer serial generation => Sys2Proof.Machine.execPrefetch issuer serial generation s
  | .purge issuer base exponent => Sys2Proof.Machine.execPurge issuer base exponent s
  | .collect count => Sys2Proof.Machine.execCollect count s
  | .status => Sys2Proof.Machine.execStatus s
  | .stageBegin declared imageId => Sys2Proof.Machine.execStageBegin declared imageId s
  | .stageChunk offset bytes => Sys2Proof.Machine.execStageChunk offset bytes s
  | .stageCommit crc => Sys2Proof.Machine.execStageCommit crc s
  | .stageAbandon => Sys2Proof.Machine.execStageAbandon s
  | .keyRead index => Sys2Proof.Machine.execKeyRead index s
  | .keyWithdraw issuer generation roles => Sys2Proof.Machine.execKeyWithdraw issuer generation roles s
  | .rollover issuer a b start d1 d2 d3 => Sys2Proof.Machine.execRollover issuer a b start d1 d2 d3 s
  | .rollback issuer => Sys2Proof.Machine.execRollback issuer s
  | .time value => Sys2Proof.Machine.execTime value s
  | .lanes setMask clearMask => Sys2Proof.Machine.execLanes setMask clearMask s
  | .serviceOn => Sys2Proof.Machine.execServiceOn s
  | .serviceOff => Sys2Proof.Machine.execServiceOff s
  | .config gantry quota margin hot cool faultCode => Sys2Proof.Machine.execConfig gantry quota margin hot cool faultCode s
  | .selftest => Sys2Proof.Machine.execSelftest s
  | .restart => Sys2Proof.Machine.execRestart s
  | .laneTimeTick => Sys2Proof.Machine.execLaneTimeTick s
  | .deadlineEvent index => Sys2Proof.Machine.execDeadlineEvent index s
  | .lingerEnd index => Sys2Proof.Machine.execLingerEnd index s
  | .windowEnd => Sys2Proof.Machine.execWindowEnd s
  | .phaseDue issuer => Sys2Proof.Machine.execPhaseDue issuer s
  | .prefetchExpiry sequence => Sys2Proof.Machine.execPrefetchExpiry sequence s
  | .thermalReading celsius => Sys2Proof.Machine.execThermalReading celsius s
  | .operationComplete unit => Sys2Proof.Machine.execOperationComplete unit s
  | .selftestEnd fault0 fault1 => Sys2Proof.Machine.execSelftestEnd fault0 fault1 s
  | .powerOn => Sys2Proof.Machine.execPowerOn s
  | .supplyLoss => Sys2Proof.Machine.execSupplyLoss s
  | .resetNLow => Sys2Proof.Machine.execResetNLow s
  | .resetEnd rate1 rate0 => Sys2Proof.Machine.execResetEnd rate1 rate0 s
  | .zeroize => Sys2Proof.Machine.execZeroize s
  | .byteReceived byte => Sys2Proof.Machine.execByteReceived byte s
  | .provisioning key => Sys2Proof.Machine.execProvisioning key s

end Sys2Proof.Machine
end

