-- ==== Sys2Proof/Safety.lean ====
section
/-! DEFINITION. What the manual calls the laws of the blocks, as decidable predicates of a state. The statements about every
step use them. -/

namespace Sys2Proof.Machine

/-- There are 64 key slots (R1) and 48 context indices (R73). -/
abbrev State.tablesSized (s : State) : Prop := s.slots.length = 64 ∧ s.places.length = 48

/-- The law of the Completion Queue on its size (R166). -/
abbrev State.queueBounded (s : State) : Prop := s.queue.records.length ≤ 64

/-- The cache has 256 entries (R56). -/
abbrev State.cacheBounded (s : State) : Prop := s.cache.length ≤ 256

/-- The Scheduler holds up to 8 records (R38). -/
abbrev State.rolloversBounded (s : State) : Prop := s.rollovers.length ≤ 8

/-- The answer list holds at most 4 request entries and at most 8 overrun notes (R161). -/
abbrev State.linkBounded (s : State) : Prop := s.link.requests ≤ 4 ∧ s.link.notes ≤ 8

/-- The ranges of the Lane Clock: the slew debt never exceeds 2000 ms, it is 0 while UNSET, and lane time takes 48 bits
(R137). -/
abbrev LaneClock.lawful (c : LaneClock) : Prop :=
  c.debt ≤ 2000 ∧ (c.time = none → c.debt = 0) ∧ c.time.getD 0 ≤ maxLaneTime

/-- The law of the Stager on a load: the byte counter never exceeds the declared length, which is that of an image of 1 to 24
records (R21, R22). -/
abbrev Load.lawful (l : Load) : Prop := l.buffer.length ≤ l.declared ∧ l.declared ≤ 776 ∧ imageLength l.declared = true

/-- The law of the Stager (R21); in COMMITTING the counter equals the declared length (R29). -/
def Stager.lawful : Stager → Prop
  | .idle => True
  | .receiving l => l.lawful
  | .committing l => l.lawful ∧ l.buffer.length = l.declared

/-- The ranges of the configuration (R144). -/
abbrev Settings.lawful (x : Settings) : Prop :=
  1 ≤ x.quota ∧ x.quota ≤ 48 ∧ x.margin ≤ 100 ∧ 60 ≤ x.hot ∧ x.hot ≤ 110 ∧ 50 ≤ x.cool ∧ x.cool + 5 ≤ x.hot
    ∧ x.faultCode ≤ 3

/-- The ranges of the Thermal Monitor (R152). -/
abbrev Thermal.lawful (t : Thermal) : Prop :=
  t.hotCount ≤ 255 ∧ t.limitCount ≤ 255 ∧ -40 ≤ t.lastReading.getD 0 ∧ t.lastReading.getD 0 ≤ 125

/-- The engine stands as the thermal state puts it: U0 is never parked, U1 is parked outside NORMAL, and the suspended mark
is set in SUSPENDED only (R111, R155). -/
abbrev State.engineAgrees (s : State) : Prop :=
  s.u0.placement = .inService ∧ (s.u1.placement = .parked ↔ s.thermal.state ≠ .normal)
    ∧ (s.suspended = true ↔ s.thermal.state = .suspended)

/-- Lane time is set in SERVICE_ON (R98, R146). -/
abbrev State.serviceTimed (s : State) : Prop := s.service = .serviceOn → s.clock.time.isSome = true

/-- At most 15 prefetch jobs, and a keyset job only while a commit is in progress, at most one (R115). -/
abbrev State.jobsLawful (s : State) : Prop :=
  prefetchJobs s.jobs ≤ 15 ∧
    s.jobs.countP (·.work.isKeyset) ≤ (match s.stager with | .committing _ => 1 | .idle => 0 | .receiving _ => 0)

/-! ### The laws of the Directory (R1, R2, R38, R39) -/

/-- No two slots that are not EMPTY have the same issuer, generation and role (R1). -/
def triplesUnique (slots : List Slot) : Prop :=
  ∀ i j x y, heldAt slots i = some x → heldAt slots j = some y →
    x.issuer = y.issuer → x.generation = y.generation → x.role = y.role → i = j

/-- For each issuer, at most one SEAL slot is ACTIVE (R2). -/
def oneActiveSeal (slots : List Slot) : Prop :=
  ∀ i j x y, heldAt slots i = some x → heldAt slots j = some y → x.role = .seal → y.role = .seal →
    x.state = .active → y.state = .active → x.issuer = y.issuer → i = j

/-- A slot holds the key of a triple in a state. -/
def holds (slots : List Slot) (i : Nat) (issuer : Issuer) (generation : Generation) (role : Role) (state : KeyState) :
    Prop :=
  ∃ k, heldAt slots i = some k ∧ k.issuer = issuer ∧ k.generation = generation ∧ k.role = role ∧ k.state = state

/-- The states of a record's four slots by its phase reached, A AUTH, A SEAL, B AUTH, B SEAL (the table of R39). -/
def phaseRow : Nat → KeyState × KeyState × KeyState × KeyState
  | 0 => (.active, .active, .standby, .standby)
  | 1 => (.active, .active, .active, .standby)
  | 2 => (.active, .draining, .active, .active)
  | _ => (.draining, .draining, .active, .active)

/-- A rollover record and its slots stand as R38 and R39 say. -/
def Rollover.lawful (slots : List Slot) (r : Rollover) : Prop :=
  r.reached ≤ 3 ∧ r.a ≠ r.b
    ∧ holds slots r.aAuth r.issuer r.a .auth (phaseRow r.reached).1
    ∧ holds slots r.aSeal r.issuer r.a .seal (phaseRow r.reached).2.1
    ∧ holds slots r.bAuth r.issuer r.b .auth (phaseRow r.reached).2.2.1
    ∧ holds slots r.bSeal r.issuer r.b .seal (phaseRow r.reached).2.2.2

/-- The laws of the Directory and the Scheduler together; the records stand in ascending issuer code, at most one for an
issuer (R14, R38). -/
def State.directoryLawful (s : State) : Prop :=
  triplesUnique s.slots ∧ oneActiveSeal s.slots ∧ (∀ r ∈ s.rollovers, r.lawful s.slots)
    ∧ (s.rollovers.map (·.issuer.toNat)).Pairwise (· < ·)

/-! ### The laws of the Transaction Table (R77, R102) -/

/-- Never two contexts of the same issuer and serial that are both outside FAILED (R77). -/
def State.tagsUnique (s : State) : Prop :=
  ∀ i j c d, s.contextAt i = some c → s.contextAt j = some d → c.isFailed = false → d.isFailed = false →
    c.issuer = d.issuer → c.serial = d.serial → i = j

/-- Reserved operations are 0 in FAILED and SEALED (R102). -/
def State.reservedLawful (s : State) : Prop :=
  ∀ i c, s.contextAt i = some c → c.isLive = false → c.reserved = 0

/-! ### The laws of the Work Queue (R113 to R115) -/

/-- The state in which a context holds a LANE job of a kind (R75, R115). -/
def Work.serves : Work → Option LiveState
  | .opening _ _ _ _ _ => some .opening
  | .verifying _ _ => some .verifying
  | .sealing _ _ _ => some .sealing
  | .keyset _ _ _ => none
  | .prefetch _ _ => none

/-- The operations still to run suit the kind of the job (R114). -/
def Job.suits (j : Job) : Prop :=
  match j.work with
  | .opening _ _ _ _ _ =>
    (∃ g slot e, j.operations = [.derive .auth g slot e, .readerProof]) ∨ j.operations = [.readerProof]
  | .verifying _ _ => j.operations = [.tagProof]
  | .sealing _ _ _ =>
    (∃ g slot e, j.operations = [.derive .seal g slot e, .sealFirst, .sealSecond])
      ∨ j.operations = [.sealFirst, .sealSecond] ∨ j.operations = [.sealSecond]
  | .keyset _ _ _ => True
  | .prefetch _ _ =>
    j.operations ≠ [] ∧ j.operations.length ≤ 2 ∧ ∀ op ∈ j.operations, ∃ role g slot e, op = .derive role g slot e

/-- The law of the Work Queue on LANE jobs: there are 48 indices and every context is found by its handle; each LANE job
serves a context in the state of its kind, and no two serve one context; enqueue sequences are distinct and already given
out (R74, R113 to R115). -/
def State.workLawful (s : State) : Prop :=
  s.places.length = 48
    ∧ (∀ i c, s.contextAt i = some c → s.resolveHandle c.handle = some (i, c))
    ∧ (∀ j ∈ s.jobs, ∀ h, j.work.owner = some h →
        ∃ i c l, s.resolveHandle h = some (i, c) ∧ j.work.serves = some l ∧ c.state = .live l)
    ∧ (s.jobs.filterMap (·.work.owner)).Nodup
    ∧ (s.jobs.map (·.sequence)).Nodup
    ∧ (∀ j ∈ s.jobs, j.sequence < s.nextSequence)
    ∧ (∀ j ∈ s.jobs, j.suits)

/-! ### The laws of bindings and of the cache (R1, R8, R57, R63) -/

/-- The number of untainted bindings that name a slot (R1, R8). -/
def State.bindings (s : State) (i : Nat) : Nat :=
  s.contexts.countP (fun c => !c.authTaint && decide (c.auth.slot = i))
    + s.contexts.countP (fun c => !c.sealTaint && decide (c.sealKey.slot = i))

/-- The slot of a binding holds a key at the epoch of the binding. -/
def Binding.current (slots : List Slot) (b : Binding) : Prop :=
  ∃ x, slots[b.slot]? = some x ∧ x.held.isSome = true ∧ x.epoch = b.epoch

/-- Every bound count is the number of untainted bindings that name the slot, and an untainted binding names a slot that
holds the install it saw (R1, R8, R12). -/
def State.boundsLawful (s : State) : Prop :=
  (∀ i x, s.slots[i]? = some x → x.bound = s.bindings i)
    ∧ ∀ c ∈ s.contexts, (c.authTaint = false → c.auth.current s.slots) ∧ (c.sealTaint = false → c.sealKey.current s.slots)

/-- Two entries that are not doomed never have the same quadruple (R57). -/
def CacheEntry.apart (a b : CacheEntry) : Prop :=
  a.doom = none → b.doom = none →
    ¬ (a.issuer = b.issuer ∧ a.serial = b.serial ∧ a.generation = b.generation ∧ a.role = b.role)

/-- The laws of the cache: identity, the source of every entry that is not doomed, a doomed entry is pinned, and every pin
belongs to a live context, an AUTH pin to one before AUTHENTICATED (R57, R62, R63). -/
def State.cacheLawful (s : State) : Prop :=
  s.cache.Pairwise CacheEntry.apart
    ∧ (∀ e ∈ s.cache, e.doom = none → Binding.current s.slots ⟨e.sourceSlot, e.sourceEpoch⟩)
    ∧ (∀ e ∈ s.cache, e.doom.isSome = true → e.pin.isSome = true)
    ∧ (∀ e ∈ s.cache, ∀ h, e.pin = some h → ∃ i c l, s.resolveHandle h = some (i, c) ∧ c.state = .live l
        ∧ (e.role = .auth → l = .opening ∨ l = .awaitTag ∨ l = .verifying))

/-! ### The words of the statements -/

/-- The owner of a request takes it: the part is out of reset, and it is in SERVICE_OFF or SERVICE_ON, or the Lane Link has
handed the request over and no zeroize has come since (R163, R165, log 31). -/
def State.takes (s : State) (i : Instr) : Prop :=
  s.power = .running ∧
    (s.service = .serviceOff ∨ s.service = .serviceOn ∨ (s.link.hasHanded i = true ∧ s.service ≠ .zeroized))

/-- The part is out of reset and in SERVICE_ON. -/
def State.inService (s : State) : Prop := s.power = .running ∧ s.service = .serviceOn

/-- In s the request i is answered a and leaves the state t, beside the answer and the Lane Link. -/
def Answers (i : Instr) (s t : State) (a : Answer) : Prop := exec i s = .next (t.answered i a)

/-- In s the request i is refused with a code, and nothing else changes. -/
def Refuses (i : Instr) (s : State) (r : Refuse) : Prop := Answers i s s (.refuse r)

/-- In STARTING, HALTED and ZEROIZED the Lane Link refuses a request before its owner sees it (R163); in STARTING and HALTED
when it has not handed the request over before. -/
def RefusedFirst (i : Instr) : Prop :=
  ∀ s : State, s.power = .running →
    (s.service = .starting → s.link.hasHanded i = false → Refuses i s .notReady)
      ∧ (s.service = .halted → s.link.hasHanded i = false → Refuses i s .halted)
      ∧ (s.service = .zeroized → Refuses i s .zeroized)

/-- The cache after the pins of some contexts are released: their doomed entries leave, their other entries are unpinned, and
the rest stand in their order (R64). -/
def pinsReleased (handles : List Handle) (cache : List CacheEntry) : List CacheEntry :=
  cache.filterMap fun e =>
    match e.pin with
    | none => some e
    | some h => if h ∈ handles then (if e.doom.isSome = true then none else some { e with pin := none }) else some e

/-- The Work Queue without the jobs of some contexts. -/
def jobsWithout (handles : List Handle) (jobs : List Job) : List Job :=
  jobs.filter fun j => !(handles.any fun h => decide (j.work.owner = some h))

/-- The state after the live context c at the index i has failed, with or without a FAILED record (R84). -/
def State.failed (s : State) (i : Nat) (c : Context) (l : LiveState) (reason : FailReason) (posted : Bool) : State :=
  { s with
    cache := pinsReleased [c.handle] s.cache
    jobs := jobsWithout [c.handle] s.jobs
    places := s.places.modify i fun p => { p with context := some { c with state := .failed reason l, reserved := 0 } }
    queue := if posted = true ∧ s.service ≠ .zeroized then s.queue.push (.failed c.handle c.lane reason l) else s.queue }

/-- The state after the context c at the index i has been freed (R86, R88). -/
def State.freed (s : State) (i : Nat) (c : Context) : State :=
  { s with
    cache := pinsReleased [c.handle] s.cache
    jobs := jobsWithout [c.handle] s.jobs
    slots := unbind c s.slots
    places := s.places.modify i fun p => { p with context := none } }

/-- The refusal that a slot of check 5 of R40 gives when it is missing or in another state than required (R41). -/
def slotRefusal (slots : List Slot) (issuer : Issuer) (generation : Generation) (role : Role) (required : KeyState)
    (r : Refuse) : Prop :=
  ((∀ n state, ¬ holds slots n issuer generation role state) ∧
      r = .noKey (match role with | .auth => 1 | .seal => 2) none generation) ∨
    ∃ n state, holds slots n issuer generation role state ∧ state ≠ required ∧ r = .slotState n state generation role

/-- The Work Queue without a job that has ended. -/
def State.endJob (s : State) (sequence : Nat) : State := s.setJobs (s.jobs.filter fun j => !decide (j.sequence = sequence))

/-- A job of the Work Queue is the one whose operation a unit runs. -/
def State.runs (s : State) (name : UnitName) (masterKey : Option Key) (j : Job) : Prop :=
  s.power = .running ∧ (s.unit name).activity = .running j.sequence masterKey ∧ j ∈ s.jobs ∧ (s.jobs.map (·.sequence)).Nodup

/-- A unit goes on with the next operation of its job, which stands changed on the Work Queue. -/
def State.goesOn (s : State) (name : UnitName) (masterKey : Option Key) (j : Job) : State :=
  (s.setJobs (updateJob s.jobs j.sequence fun _ => j)).setUnit name
    { s.unit name with activity := .running j.sequence masterKey }

/-- The bytes of some fields, each given by its width in bytes and its value, most significant byte first (R171). -/
def laidOut (fields : List (Nat × Nat)) : List Byte := fields.flatMap fun f => toBytes f.1 f.2

/-! ### Key material (R127) -/

/-- A slot with its key material blanked out. -/
def Slot.veiled (x : Slot) : Slot := { x with held := x.held.map fun k => { k with key := 0 } }

/-- What a job computes, with the keys and cipher blocks that it carries blanked out. -/
def Work.veiled : Work → Work
  | .opening h i n a b => .opening h i n a b
  | .verifying h p => .verifying h p
  | .sealing h r first => .sealing h r (first.map fun _ => 0)
  | .keyset l keys results => .keyset l (keys.map fun _ => 0) results
  | .prefetch i n => .prefetch i n

/-- A unit with the master key that it holds blanked out. -/
def CipherUnit.veiled (u : CipherUnit) : CipherUnit :=
  match u.activity with
  | .running sequence masterKey => { u with activity := .running sequence (masterKey.map fun _ => 0) }
  | .free => u
  | .testing => u

/-- The state with all key material blanked out: master keys, the transport key, derived keys, and the keys and cipher blocks
in progress. -/
def State.veiled (s : State) : State :=
  { s with
    slots := s.slots.map Slot.veiled
    transport := s.transport.map fun k => { k with key := 0 }
    cache := s.cache.map fun e => { e with key := 0 }
    jobs := s.jobs.map fun j => { j with work := j.work.veiled }
    u0 := s.u0.veiled
    u1 := s.u1.veiled }

end Sys2Proof.Machine

namespace Sys2Proof

/-! ### Kinds of commands -/

/-- Whether a command is one of the 23 requests. -/
def Instr.isRequest (i : Instr) : Bool := (encodeRequest i).isSome

/-! ### The protected store (R3, R19) -/

/-- The commands that may change what a slot holds or its install epoch (R3, R5). -/
def Instr.writesSlots : Instr → Bool
  | .operationComplete _ => true
  | .phaseDue _ => true
  | .rollback _ => true
  | .keyWithdraw _ _ _ => true
  | .windowEnd => true
  | .zeroize => true
  | _ => false

/-- The commands that may change a rollover record (R38). -/
def Instr.writesRollovers : Instr → Bool
  | .rollover _ _ _ _ _ _ _ => true
  | .rollback _ => true
  | .phaseDue _ => true
  | .keyWithdraw _ _ _ => true
  | .windowEnd => true
  | .zeroize => true
  | _ => false

/-- The commands that may change the transport key or the ZEROIZED mark (R18, R20). -/
def Instr.writesTransport : Instr → Bool
  | .zeroize => true
  | .provisioning _ => true
  | _ => false

end Sys2Proof
end

