-- ==== Sys2Proof/Certificates/Slice0/Obligations.lean ====
section
/-! DEFINITION. The statements for the provers. A request's outcome is written s.answered: the outcome goes to the Lane Link's
head entry when the link has handed that request over, and stands as the last answer (log 1). -/

open Sys2Proof Sys2Proof.Machine

/-! ### The machine -/

/-- A step runs the command at the front of the queue with the queue's rest; on an empty queue the part idles (the model's
choice, log 2). -/
def Obligations.StepRunsFrontCommand : Prop :=
  (∀ (c : Instr) (rest : List Instr) (s : State), step (s.setPending (c :: rest)) = exec c (s.setPending rest)) ∧
    ∀ s : State, s.pending = [] → step s = .next s

/-- Every command gives a next state from every state, and leaves the commands that wait as they are: the part has no fault
(log 13). -/
def Obligations.EveryCommandCompletes : Prop :=
  ∀ (c : Instr) (s : State), ∃ t, exec c s = .next t ∧ t.pending = s.pending

/-! ### The Lane Link (11) -/

/-- R160: a byte before the last of a frame, and the gap of more than 1 ms. FRAME_RECEIVED has no effect while more than one
byte is missing (the model's choice, log 23). -/
def Obligations.BytesMoveTheReceiver : Prop :=
  ∀ (b : Byte) (s : State), s.power = .running →
    (s.link.receiver = .hunting →
      exec (.byteReceived b) s
        = .next (s.setLink { s.link with receiver := if b = 0xD1 then .atLength else .hunting })) ∧
    (s.link.receiver = .atLength →
      exec (.byteReceived b) s
        = .next (s.setLink
            { s.link with receiver := if 2 ≤ b.toNat ∧ b.toNat ≤ 250 then .inFrame b [] else .hunting })) ∧
    (∀ length received, s.link.receiver = .inFrame length received → received.length + 1 < length.toNat + 2 →
      exec (.byteReceived b) s = .next (s.setLink { s.link with receiver := .inFrame length (received ++ [b]) })) ∧
    (s.link.receiver.lacksOne = false → exec (.frameReceived b) s = .next s) ∧
    exec .frameGapTimeout s = .next (s.setLink { s.link with receiver := .hunting })

/-- R160, R161: the last byte of a frame, as BYTE_RECEIVED or as FRAME_RECEIVED. A frame whose CRC-16 differs is dropped;
a good frame joins the answer list as a request entry, as an overrun note, or not at all, and at an empty list it is begun. -/
def Obligations.GoodFramesJoinTheAnswerList : Prop :=
  ∀ (c : Instr) (last length kind tag : Byte) (received body crc : List Byte) (s : State),
    c = .byteReceived last ∨ c = .frameReceived last → s.power = .running →
    s.link.receiver = .inFrame length received → received ++ [last] = kind :: tag :: (body ++ crc) →
    body.length + 2 = length.toNat → crc.length = 2 →
    (fromBytes crc ≠ (crc16 (length :: kind :: tag :: body)).toNat →
      exec c s = .next (s.setLink { s.link with receiver := .hunting })) ∧
    (fromBytes crc = (crc16 (length :: kind :: tag :: body)).toNat →
      exec c s = .next (s.setLink {
        receiver := .hunting
        entries :=
          if s.link.requests < 4 then s.link.entries ++ [.request kind tag body]
          else if s.link.notes < 8 then s.link.entries ++ [.overrun kind tag]
          else s.link.entries
        stage := if s.link.entries = [] then beginEntry s.report (.request kind tag body) else s.link.stage }))

/-- R161 to R163, R146, R170: how far the answering of an entry comes when the Lane Link begins it, where `now` says how the
other blocks stand in that event. A STATUS has its reply at once, with the fields as they stand then. That the Lane Link itself
refuses a SERVICE whose byte is neither off nor on BAD_FIELD when it begins the frame is the model's reading (DEDUCED, log
24). -/
def Obligations.HeadEntryIsChecked : Prop :=
  ∀ (now : StatusReport) (kind tag : Byte) (body : List Byte),
    beginEntry now (.overrun kind tag) = .sending tag (.refuse .linkOverrun) ∧
    (kind.toNat = 0 ∨ 0x17 < kind.toNat →
      beginEntry now (.request kind tag body) = .sending tag (.refuse (.unknownKind kind))) ∧
    (1 ≤ kind.toNat → kind.toNat ≤ 0x17 → ∃ shortest longest, requestBody kind = some (shortest, longest) ∧
      (body.length < shortest ∨ longest < body.length →
        beginEntry now (.request kind tag body) = .sending tag (.refuse (.badLength (BitVec.ofNat 8 body.length)))) ∧
      (shortest ≤ body.length → body.length ≤ longest →
        (kind = 0x08 → beginEntry now (.request kind tag body) = .sending tag (.status now)) ∧
        (kind ≠ 0x08 →
          (now.service = .starting → beginEntry now (.request kind tag body) = .sending tag (.refuse .notReady)) ∧
          (now.service = .halted → kind ≠ 0x0D → kind ≠ 0x17 →
            beginEntry now (.request kind tag body) = .sending tag (.refuse .halted)) ∧
          (now.service = .zeroized → beginEntry now (.request kind tag body) = .sending tag (.refuse .zeroized)) ∧
          (now.service = .serviceOff ∨ now.service = .serviceOn ∨ (now.service = .halted ∧ (kind = 0x0D ∨ kind = 0x17)) →
            (kind = 0x14 → fieldAt body 0 1 ≤ 1) → beginEntry now (.request kind tag body) = .handed) ∧
          (now.service = .serviceOff ∨ now.service = .serviceOn → kind = 0x14 → 1 < fieldAt body 0 1 →
            beginEntry now (.request kind tag body) = .sending tag (.refuse (.badField 0 0))))))

/-- R161, R162, R149: the last byte of a reply is sent. Its entry leaves and the next is begun; after the reply to a RESTART
the reset begins. That REPLY_COMPLETE has no effect while no reply is being sent is the model's choice (log 3), and so is the
state in reset, the volatile state cleared at the beginning (log 12). -/
def Obligations.RepliesLeaveInOrder : Prop :=
  ∀ s : State, s.power = .running →
    (∀ tag a e rest, s.link.stage = .sending tag a → s.link.entries = e :: rest →
      (s.restarting = true → a ≠ .restarting) →
      exec .replyComplete s = .next (s.setLink {
        receiver := s.link.receiver
        entries := rest
        stage := match rest with
          | [] => .idle
          | next :: _ => beginEntry s.report next })) ∧
    (∀ tag, s.link.stage = .sending tag .restarting → s.restarting = true →
      exec .replyComplete s = .next (s.clearVolatile.setPower .inReset)) ∧
    ((∀ tag a, s.link.stage ≠ .sending tag a) → s.restarting = false → exec .replyComplete s = .next s)

/-- R163 check 3, R145, R149: without supply and in reset no request is taken; in STARTING, HALTED and ZEROIZED every request
but those named is refused and nothing else changes. The service state is read in the event that begins an entry: a request
that the Lane Link has handed over is its owner's, whatever the service state has become, save that a zeroize since then refuses
it (R165; the model's reading, log 31). A request command without a frame is judged by the present service state (the model's
choice, log 1). -/
def Obligations.ServiceStateRefusesFirst : Prop :=
  (∀ (i : Instr) (s : State), i.isRequest = true → i.wellFormed = true →
    (s.power ≠ .running → exec i s = .next s) ∧
    (s.power = .running →
      (s.link.hasHanded i = false →
        (s.service = .starting → i ≠ .status → Refuses i s .notReady) ∧
        (s.service = .halted → i ≠ .status → i ≠ .restart → (∀ index, i ≠ .keyRead index) → Refuses i s .halted)) ∧
      (s.service = .zeroized → i ≠ .status → Refuses i s .zeroized))) ∧
  (∀ (i : Instr) (s : State), s.link.hasHanded i = true ↔ s.link.stage = .handed ∧
    ∃ kind tag body rest, s.link.entries = .request kind tag body :: rest ∧ decodeRequest kind body = .request i) ∧
  ∀ (i : Instr) (s : State), i.isRequest = true → i.wellFormed = true → s.power = .running → s.link.hasHanded i = true →
    s.service ≠ .zeroized →
    ∃ t a, exec i s = .next t ∧ t.answer = some a ∧ a ≠ .refuse .notReady ∧ a ≠ .refuse .halted ∧ a ≠ .refuse .zeroized

/-- R162, R164: the reply of the head entry carries its tag and is formed from the outcome of its request's event; a request's
event changes nothing else of the Lane Link. R159, R164: the frame of a reply is the sync byte, the length, ACCEPT (80 hex) or
REFUSE (81 hex), the tag, the body and the CRC-16. That a request command may come without a frame is the model's choice
(log 1). -/
def Obligations.OutcomeBecomesTheReply : Prop :=
  (∀ (i : Instr) (s : State), i.isRequest = true → s.power = .running →
    (∀ kind tag body rest, s.link.stage = .handed → s.link.entries = .request kind tag body :: rest →
      decodeRequest kind body = .request i →
      ∃ t a, exec i s = .next t ∧ t.answer = some a ∧ t.link = { s.link with stage := .sending tag a }) ∧
    (s.link.hasHanded i = false → ∃ t, exec i s = .next t ∧ t.link = s.link)) ∧
  ∀ (l : Link) (tag : Byte) (a : Answer), l.stage = .sending tag a → a.body.length ≤ 248 →
    ∃ (length kind : Byte) (crc : List Byte), length.toNat = a.body.length + 2 ∧ crc.length = 2 ∧
      ((∃ r, a = .refuse r) → kind = 0x81) ∧ ((¬ ∃ r, a = .refuse r) → kind = 0x80) ∧
      fromBytes crc = (crc16 (length :: kind :: tag :: a.body)).toNat ∧
      l.transmitting = 0xD1 :: length :: kind :: tag :: (a.body ++ crc)

/-- R171 to R176: the bytes of every ACCEPT body, REFUSE body and completion record, field by field in the layouts of R174,
R175 and R176 with the codes of R171, absent fields as zeros (R172), and their lengths (R173). -/
def Obligations.RepliesAndRecordsAreLaidOut : Prop :=
  -- the codes of R171
  [ServiceState.starting, .serviceOff, .serviceOn, .halted, .zeroized].map serviceCode = [0, 1, 2, 3, 4] ∧
  [LiveState.opening, .awaitTag, .verifying, .authenticated, .sealing].map liveCode = [1, 2, 3, 4, 5] ∧
  (∀ l, contextCode (.live l) = liveCode l) ∧ (∀ stamp x, contextCode (.sealed stamp x) = 6) ∧
  (∀ reason l, contextCode (.failed reason l) = 7) ∧
  [FailReason.expired, .authMismatch, .keyWithdrawn, .laneOff, .serviceOff].map reasonCode = [1, 2, 3, 4, 5] ∧
  [JobStatus.none, .waiting, .running].map jobCode = [0, 1, 2] ∧
  [KeyState.standby, .active, .draining].map keyStateCode = [1, 2, 3] ∧ [Role.auth, .seal].map roleCode = [1, 2] ∧
  (∀ x y, roleSetCode x y = (if x = true then 1 else 0) + (if y = true then 2 else 0)) ∧
  [StagingKind.idle, .receiving, .committing].map stagingCode = [0, 1, 2] ∧
  [ThermalState.normal, .throttled, .suspended].map thermalCode = [0, 1, 2] ∧
  [Health.good, .failed].map healthCode = [0, 1] ∧ [Placement.inService, .parked].map placementCode = [0, 1] ∧
  [ActivityKind.free, .running, .testing].map activityCode = [0, 1, 2] ∧
  [TimeAction.set, .step, .slew].map actionCode = [1, 2, 3] ∧
  [RolloverOutcome.applied, .rolledBack, .abandoned].map outcomeCode = [1, 2, 3] ∧
  [TestOrigin.startUp, .request].map originCode = [1, 2] ∧ [true, false].map resultCode = [0, 1] ∧
  [false, true].map markCode = [0, 1] ∧ [(-40 : Int), -1, 0, 125].map celsiusCode = [0xD8, 0xFF, 0, 125] ∧
  -- the ACCEPT bodies of R174, each with its length of R173
  (∀ handle deadline estimate slack x y, (Answer.opened handle deadline estimate slack x y).body
    = laidOut [(2, handle.toNat), (6, deadline), (1, estimate), (2, slack), (1, (roleSetCode x y).toNat)]) ∧
  (∀ handle deadline, (Answer.verifying handle deadline).body = laidOut [(2, handle.toNat), (6, deadline)]) ∧
  (∀ handle stamp operations, (Answer.sealing handle stamp operations).body
    = laidOut [(2, handle.toNat), (6, stamp), (1, operations)]) ∧
  (∀ state x y cancelled, (Answer.closed state x y cancelled).body
    = laidOut ([(1, (contextCode state).toNat)] ++ (match state with
        | .failed reason l => [(1, (reasonCode reason).toNat), (1, (liveCode l).toNat)]
        | _ => [(1, 0), (1, 0)])
      ++ [(1, (roleSetCode x y).toNat), (1, (markCode cancelled).toNat)])) ∧
  (∀ (c : Context) job, (Answer.context c job).body
    = laidOut ([(2, c.handle.toNat), (1, c.lane.toNat), (2, c.issuer.toNat), (4, c.serial.toNat), (1, c.generation.toNat),
        (8, c.nonce.toNat), (8, c.challenge.toNat), (1, c.auth.slot), (2, c.auth.epoch.toNat), (1, c.sealKey.slot),
        (2, c.sealKey.epoch.toNat), (1, c.sealGeneration.toNat), (6, c.deadline), (1, c.reserved),
        (1, (roleSetCode c.authTaint c.sealTaint).toNat), (1, (contextCode c.state).toNat), (1, (jobCode job).toNat)]
      ++ (match c.state with
        | .failed reason l => [(1, (reasonCode reason).toNat), (1, (liveCode l).toNat), (6, 0), (8, 0)]
        | .sealed stamp x => [(1, 0), (1, 0), (6, stamp), (8, x.toNat)]
        | .live _ => [(1, 0), (1, 0), (6, 0), (8, 0)]))) ∧
  (Answer.prefetched .cached).body = laidOut [(1, 1), (1, 0), (1, 0), (1, 0)] ∧
  (∀ role r, (Answer.prefetched (.noKey role r)).body
    = laidOut [(1, 2), (1, (roleCode role).toNat), (1, r.code.toNat), (1, 0)]) ∧
  (Answer.prefetched .dropped).body = laidOut [(1, 3), (1, 0), (1, 0), (1, 0)] ∧
  (∀ operations, (Answer.prefetched (.queued operations)).body = laidOut [(1, 4), (1, 0), (1, 0), (1, operations)]) ∧
  (∀ (records : List CompletionRecord) remaining overflow, (Answer.collected records remaining overflow).body
    = laidOut [(1, records.length), (1, remaining), (1, (markCode overflow).toNat)]
      ++ records.flatMap CompletionRecord.bytes) ∧
  (∀ r : StatusReport, (Answer.status r).body
    = laidOut [(1, (serviceCode r.service).toNat), (1, (markCode r.time.isSome).toNat), (6, r.time.getD 0), (2, r.debt),
        (1, r.mask.toNat), (1, (healthCode r.health0).toNat), (1, (placementCode r.placement0).toNat),
        (1, (activityCode r.activity0).toNat), (1, (healthCode r.health1).toNat), (1, (placementCode r.placement1).toNat),
        (1, (activityCode r.activity1).toNat), (1, (thermalCode r.thermalState).toNat),
        (1, (markCode r.lastReading.isSome).toNat), (1, (celsiusCode (r.lastReading.getD 0)).toNat), (1, r.hotCount),
        (1, r.contexts), (1, r.workDepth), (1, r.queueDepth), (1, (markCode r.overflow).toNat),
        (1, (stagingCode r.staging).toNat), (2, r.counter), (1, r.slots), (1, r.rollovers),
        (1, (markCode r.checkValue.isSome).toNat), (4, (r.checkValue.getD 0).toNat)]) ∧
  (∀ count discarded, (Answer.stageBegun count discarded).body = laidOut [(1, count), (1, (markCode discarded).toNat)]) ∧
  (∀ counter, (Answer.chunkTaken counter).body = laidOut [(2, counter)]) ∧
  (∀ count operations, (Answer.commitStarted count operations).body = laidOut [(1, count), (1, operations)]) ∧
  (∀ counter, (Answer.abandoned counter).body = laidOut [(2, counter)]) ∧
  (∀ index : Byte, (Answer.keyAbsent index).body
    = laidOut [(1, 0), (1, index.toNat), (1, 0), (2, 0), (1, 0), (1, 0), (4, 0), (4, 0), (4, 0), (2, 0), (1, 0)]) ∧
  (∀ (index : Byte) state issuer (generation : Generation) role notBefore notAfter checkValue epoch bound,
    (Answer.keyPresent index state issuer generation role notBefore notAfter checkValue epoch bound).body
      = laidOut [(1, 1), (1, index.toNat), (1, (keyStateCode state).toNat), (2, issuer.toNat), (1, generation.toNat),
          (1, (roleCode role).toNat), (4, notBefore.toNat), (4, notAfter.toNat), (4, checkValue.toNat), (2, epoch.toNat),
          (1, bound)]) ∧
  (∀ first tainted, (Answer.withdrawn [first] tainted).body = laidOut [(1, 1), (1, first), (1, 0), (1, tainted)]) ∧
  (∀ first second tainted, (Answer.withdrawn [first, second] tainted).body
    = laidOut [(1, 2), (1, first), (1, second), (1, tainted)]) ∧
  (∀ p1 p2 p3 p4 x1 x2 x3 x4, (Answer.rolloverPlanned p1 p2 p3 p4 x1 x2 x3 x4).body
    = laidOut [(4, p1), (4, p2), (4, p3), (4, p4), (1, x1), (1, x2), (1, x3), (1, x4)]) ∧
  (∀ (a b : Generation) reached, (Answer.rolledBack a b reached).body
    = laidOut [(1, a.toNat), (1, b.toNat), (1, reached)]) ∧
  (∀ exponent first removed doomed, (Answer.purged exponent first removed doomed).body
    = laidOut [(1, exponent), (4, first), (2, removed), (1, doomed)]) ∧
  (∀ action time debt, (Answer.timeTaken action time debt).body
    = laidOut [(1, (actionCode action).toNat), (6, time), (2, debt)]) ∧
  (∀ mask : Byte, (Answer.lanes mask).body = laidOut [(1, mask.toNat)]) ∧
  (∀ state failed, (Answer.service state failed).body = laidOut [(1, (serviceCode state).toNat), (1, failed)]) ∧
  (∀ x : Settings, (Answer.configured x).body
    = laidOut [(2, x.gantry.toNat), (1, x.quota), (1, x.margin), (1, x.hot), (1, x.cool), (1, x.faultCode)]) ∧
  Answer.selftestBegun.body = [] ∧ Answer.restarting.body = [] ∧
  (∀ fields : List (Nat × Nat), (laidOut fields).length = (fields.map (·.1)).sum) ∧
  -- the REFUSE bodies of R175
  (∀ r : Refuse, (Answer.refuse r).body = laidOut (match r with
    | .unknownKind kind => [(1, 0x01), (1, kind.toNat)]
    | .badLength length => [(1, 0x02), (1, length.toNat)]
    | .badField offset lanes => [(1, 0x03), (1, offset.toNat), (1, lanes.toNat)]
    | .linkOverrun => [(1, 0x04)]
    | .notReady => [(1, 0x05)]
    | .halted => [(1, 0x06)]
    | .zeroized => [(1, 0x07)]
    | .notInService => [(1, 0x08)]
    | .serviceState => [(1, 0x09)]
    | .noTime => [(1, 0x0A)]
    | .timeBackward time => [(1, 0x0B), (6, time)]
    | .laneOff => [(1, 0x0C)]
    | .laneFull live quota => [(1, 0x0D), (1, live), (1, quota)]
    | .tableFull => [(1, 0x0E)]
    | .backlog depth => [(1, 0x0F), (1, depth)]
    | .overloaded estimate => [(1, 0x10), (1, estimate)]
    | .thermal => [(1, 0x11)]
    | .duplicateTag handle lane => [(1, 0x12), (2, handle.toNat), (1, lane.toNat)]
    | .noKey roles slot generation => [(1, 0x13), (1, roles.toNat), (1, slot.getD 0xFF), (1, generation.toNat)]
    | .keyNotYet role slot generation => [(1, 0x14), (1, (roleCode role).toNat), (1, slot), (1, generation.toNat)]
    | .keyRetired role slot generation => [(1, 0x15), (1, (roleCode role).toNat), (1, slot), (1, generation.toNat)]
    | .keyWithdrawn role => [(1, 0x16), (1, (roleCode role).toNat)]
    | .unknownHandle handle => [(1, 0x17), (2, handle.toNat)]
    | .wrongState state => [(1, 0x18), (1, (contextCode state).toNat)]
    | .txnFailed reason l => [(1, 0x19), (1, (reasonCode reason).toNat), (1, (liveCode l).toNat)]
    | .busy => [(1, 0x1A)]
    | .stagingIdle => [(1, 0x1B)]
    | .outOfSequence counter => [(1, 0x1C), (2, counter)]
    | .overlength declared counter => [(1, 0x1D), (2, declared), (2, counter)]
    | .incomplete counter declared => [(1, 0x1E), (2, counter), (2, declared)]
    | .imageCrc crc => [(1, 0x1F), (4, crc.toNat)]
    | .badImage record => [(1, 0x20), (1, record.getD 0xFF)]
    | .conflict record slot => [(1, 0x21), (1, record), (1, slot.getD 0xFF)]
    | .directoryFull count empty => [(1, 0x22), (1, count), (1, empty)]
    | .rolloverConflict a b reached => [(1, 0x23), (1, a.toNat), (1, b.toNat), (1, reached)]
    | .rolloverFull => [(1, 0x24)]
    | .noRollover => [(1, 0x25)]
    | .slotState slot state generation role =>
      [(1, 0x26), (1, slot), (1, (keyStateCode state).toNat), (1, generation.toNat), (1, (roleCode role).toNat)])) ∧
  -- the completion records of R176
  ∀ r : CompletionRecord, (∀ imageId slots, r = .committed imageId slots → slots.length ≤ 24) →
    let fields := laidOut (match r with
      | .opened handle lane challenge proof =>
        [(1, 0x01), (2, handle.toNat), (1, lane.toNat), (8, challenge.toNat), (8, proof.toNat)]
      | .verified handle lane => [(1, 0x02), (2, handle.toNat), (1, lane.toNat)]
      | .sealed handle lane stamp generation x =>
        [(1, 0x03), (2, handle.toNat), (1, lane.toNat), (6, stamp), (1, generation.toNat), (8, x.toNat)]
      | .failed handle lane reason l =>
        [(1, 0x04), (2, handle.toNat), (1, lane.toNat), (1, (reasonCode reason).toNat), (1, (liveCode l).toNat)]
      | .committed imageId slots => [(1, 0x05), (4, imageId.toNat), (1, slots.length)] ++ slots.map fun slot => (1, slot)
      | .commitFailed imageId index => [(1, 0x06), (4, imageId.toNat), (1, 1), (1, index.toNat)]
      | .rolloverPhase issuer a b phase outcome time =>
        [(1, 0x07), (2, issuer.toNat), (1, a.toNat), (1, b.toNat), (1, phase), (1, (outcomeCode outcome).toNat), (4, time)]
      | .selftestDone origin pass0 pass1 =>
        [(1, 0x08), (1, (originCode origin).toNat), (1, (resultCode pass0).toNat), (1, (resultCode pass1).toNat)]
      | .thermal left new reading =>
        [(1, 0x09), (1, (thermalCode left).toNat), (1, (thermalCode new).toNat), (1, (celsiusCode reading).toNat)])
    r.bytes = fields ++ List.replicate (32 - fields.length) 0 ∧ r.bytes.length = 32

/-- R164: a refused request changes nothing but the answer, unless its rule names an effect: a refused VERIFY or SEAL on a
tainted role fails its context, and IMAGE_CRC, BAD_IMAGE, CONFLICT and DIRECTORY_FULL end the load. -/
def Obligations.RefusalsChangeNothing : Prop :=
  ∀ (i : Instr) (s t : State) (r : Refuse), i.isRequest = true → s.power = .running → exec i s = .next t →
    t.answer = some (.refuse r) →
    match r with
    | .imageCrc _ => t = (s.setStager .idle).answered i (.refuse r)
    | .badImage _ => t = (s.setStager .idle).answered i (.refuse r)
    | .conflict _ _ => t = (s.setStager .idle).answered i (.refuse r)
    | .directoryFull _ _ => t = (s.setStager .idle).answered i (.refuse r)
    | .keyWithdrawn role =>
      ∃ h n c l, s.resolveHandle h = some (n, c) ∧ c.state = .live l
        ∧ t = (s.failed n c l .keyWithdrawn false).answered i (.refuse r) ∧
        ((role = .auth ∧ l = .awaitTag ∧ c.authTaint = true ∧ ∃ p, i = .verify h p)
          ∨ (role = .seal ∧ l = .authenticated ∧ c.sealTaint = true ∧ ∃ v m q, i = .sealTag h v m q))
    | _ => t = s.answered i (.refuse r)

/-- R171 to R174, R159, R160: for every well-formed request, decoding the kind and the body that carry it gives it back, and
its frame, sent byte by byte to a quiet link in SERVICE_ON, is handed to its owner, or, for STATUS, has its reply. -/
def Obligations.RequestsSurviveTheLink : Prop :=
  ∀ (i : Instr) (now : StatusReport) (kind tag : Byte) (body : List Byte), i.wellFormed = true →
    encodeRequest i = some (kind, body) → now.service = .serviceOn →
    decodeRequest kind body = .request i ∧
      (frameOf kind tag body).foldl (fun l b => l.receive now b) Link.quiet
        = ⟨.hunting, [.request kind tag body], if i = .status then .sending tag (.status now) else .handed⟩

/-! ### Transactions (05, 06) -/

/-- R74: a handle that names no context is refused UNKNOWN_HANDLE, with the handle as received. -/
def Obligations.UnknownHandlesAreRefused : Prop :=
  ∀ (s : State) (h : Handle),
    (¬ ∃ c, h.toNat % 64 < 48 ∧ s.places[h.toNat % 64]? = some ⟨h.toNat / 64, some c⟩) →
    (s.takes (.close h) → Refuses (.close h) s (.unknownHandle h)) ∧
    (s.takes (.query h) → Refuses (.query h) s (.unknownHandle h)) ∧
    (s.inService → ∀ proof vehicleClass charge sequence, Refuses (.verify h proof) s (.unknownHandle h)
      ∧ Refuses (.sealTag h vehicleClass charge sequence) s (.unknownHandle h))

/-- R76, R78, R98, R101, R106: an OPEN that passes the twelve checks is taken. -/
def Obligations.OpenIsTaken : Prop :=
  ∀ (s : State) (lane : Byte) (issuer : Issuer) (serial : Serial) (generation : Generation) (nonce : Half)
    (dwell : BitVec 16) (index use a b na nb : Nat) (ka kb : MasterKey) (ea eb : Epoch),
    s.inService → triplesUnique s.slots → oneActiveSeal s.slots →
    lane.toNat ≤ 7 → s.mask.getLsbD lane.toNat = true → issuer ≠ 0 → issuer ≠ 0xFFFF → 1 ≤ s.unitsServing →
    (∀ c ∈ s.contexts, c.issuer = issuer → c.serial = serial → c.isFailed = true) →
    s.slots[a]? = some ⟨some ka, ea, na⟩ → ka.issuer = issuer → ka.generation = generation → ka.role = .auth →
    ka.state = .active → ka.notBefore.toNat ≤ s.nowSeconds → s.nowSeconds < ka.notAfter.toNat →
    s.slots[b]? = some ⟨some kb, eb, nb⟩ → kb.issuer = issuer → kb.role = .seal → kb.state = .active →
    kb.notBefore.toNat ≤ s.nowSeconds → s.nowSeconds < kb.notAfter.toNat →
    s.places[index]? = some ⟨use, none⟩ → (∀ n, n < index → (s.contextAt n).isSome = true) →
    s.liveCount lane < s.settings.quota → s.queue.records.length < 48 →
    let dwellMs := if dwell.toNat < 5 then 5 else if 500 < dwell.toNat then 500 else dwell.toNat
    let authHit := cacheHit s.cache issuer serial generation .auth
    let sealHit := cacheHit s.cache issuer serial kb.generation .seal
    let cost := 4 + (if authHit = true then 0 else 1) + (if sealHit = true then 0 else 1)
    let estimate := s.openEstimate dwellMs cost
    estimate + s.settings.margin ≤ dwellMs →
    let handle := BitVec.ofNat 16 ((use + 1) % 1024 * 64 + index)
    let challenge := Config.challenge s.draws
    let deadline := s.nowMs + dwellMs
    let context : Context := {
      handle := handle, lane := lane, issuer := issuer, serial := serial, generation := generation, nonce := nonce
      challenge := challenge, auth := ⟨a, ea⟩, sealKey := ⟨b, eb⟩, sealGeneration := kb.generation, deadline := deadline
      reserved := cost, authTaint := false, sealTaint := false, state := .live .opening }
    let bound : State := { s with
      places := s.places.set index ⟨(use + 1) % 1024, some context⟩
      draws := s.draws + 1
      slots := raiseBound (raiseBound s.slots a) b }
    let pinned := (bound.touchAndPin authHit handle issuer serial generation .auth).touchAndPin sealHit handle issuer serial
      kb.generation .seal
    exec (.openTag lane issuer serial generation nonce dwell) s
      = .next (((pinned.place (.opening handle issuer serial nonce challenge)
          (if authHit = true then [.readerProof] else [.derive .auth generation a ea, .readerProof]) deadline).arbitrate).answered
          (.openTag lane issuer serial generation nonce dwell)
          (.opened handle deadline estimate (dwellMs - estimate - s.settings.margin) authHit sealHit))

/-- R76: the twelve checks of an OPEN in their order, each refusal with its detail; a refused OPEN changes nothing. -/
def Obligations.OpenIsRefusedInOrder : Prop :=
  ∀ (s : State) (lane : Byte) (issuer : Issuer) (serial : Serial) (generation : Generation) (nonce : Half)
    (dwell : BitVec 16),
    let i : Instr := .openTag lane issuer serial generation nonce dwell
    (s.takes i → s.service ≠ .serviceOn → Refuses i s .notInService) ∧
    (s.inService →
      (7 < lane.toNat → Refuses i s (.badField 0 0)) ∧
      (lane.toNat ≤ 7 →
        (s.mask.getLsbD lane.toNat = false → Refuses i s .laneOff) ∧
        (s.mask.getLsbD lane.toNat = true →
          (issuer = 0 ∨ issuer = 0xFFFF → Refuses i s (.badField 1 0)) ∧
          (issuer ≠ 0 → issuer ≠ 0xFFFF →
            (s.unitsServing = 0 → Refuses i s .thermal) ∧
            (s.unitsServing ≠ 0 →
              (∀ c, s.blockingContext issuer serial = some c → Refuses i s (.duplicateTag c.handle c.lane)) ∧
              (s.blockingContext issuer serial = none →
                (∀ r, resolveAuth s.slots issuer generation s.nowSeconds = .error r → Refuses i s r) ∧
                (∀ auth, resolveAuth s.slots issuer generation s.nowSeconds = .ok auth →
                  (∀ r, resolveSeal s.slots issuer generation s.nowSeconds = .error r → Refuses i s r) ∧
                  (∀ sealKey, resolveSeal s.slots issuer generation s.nowSeconds = .ok sealKey →
                    (s.freeIndex = none → Refuses i s .tableFull) ∧
                    (s.freeIndex ≠ none →
                      (s.settings.quota ≤ s.liveCount lane →
                        Refuses i s (.laneFull (s.liveCount lane) s.settings.quota)) ∧
                      (s.liveCount lane < s.settings.quota →
                        (48 ≤ s.queue.records.length → Refuses i s (.backlog s.queue.records.length)) ∧
                        (s.queue.records.length < 48 →
                          let estimate := s.openEstimate (dwellTaken dwell)
                            (openCost (cacheHit s.cache issuer serial generation .auth)
                              (cacheHit s.cache issuer serial sealKey.2 .seal))
                          dwellTaken dwell < estimate + s.settings.margin →
                            Refuses i s (.overloaded estimate))))))))))))

/-- R6, R7: which slots an OPEN or a PREFETCH selects, and each refusal, at a lane second. -/
def Obligations.SelectionOfKeys : Prop :=
  ∀ (slots : List Slot) (issuer : Issuer) (generation : Generation) (now : Nat),
    ((∀ (n : Nat) (k : MasterKey), heldAt slots n = some k → ¬ (k.issuer = issuer ∧ k.generation = generation ∧ k.role = .auth)) →
      resolveAuth slots issuer generation now = .error (.noKey 1 none generation)) ∧
    (∀ (n : Nat) (k : MasterKey) (e : Epoch) (x : Nat), triplesUnique slots → slots[n]? = some ⟨some k, e, x⟩ → k.issuer = issuer → k.generation = generation →
      k.role = .auth →
      resolveAuth slots issuer generation now =
        match k.state with
        | .standby => .error (.keyNotYet .auth n generation)
        | .draining => .error (.keyRetired .auth n generation)
        | .active =>
          if now < k.notBefore.toNat then .error (.keyNotYet .auth n generation)
          else if k.notAfter.toNat ≤ now then .error (.keyRetired .auth n generation)
          else .ok ⟨n, e⟩) ∧
    ((∀ (n : Nat) (k : MasterKey), heldAt slots n = some k → ¬ (k.issuer = issuer ∧ k.role = .seal ∧ k.state = .active)) →
      resolveSeal slots issuer generation now = .error (.noKey 2 none generation)) ∧
    (∀ (n : Nat) (k : MasterKey) (e : Epoch) (x : Nat), oneActiveSeal slots → slots[n]? = some ⟨some k, e, x⟩ → k.issuer = issuer → k.role = .seal →
      k.state = .active →
      resolveSeal slots issuer generation now =
        if now < k.notBefore.toNat then .error (.keyNotYet .seal n k.generation)
        else if k.notAfter.toNat ≤ now then .error (.noKey 2 (some n) k.generation)
        else .ok (⟨n, e⟩, k.generation))

/-- R101, R103 to R105: the cost of an OPEN, the work ahead of its deadline, and the estimate with its two roundings upward. -/
def Obligations.AdmissionEstimate : Prop :=
  (∀ operations n, 1 ≤ n → n ≤ 2 → ∃ micro, IsLeast { x : Nat | operations * 120 ≤ x * n } micro ∧
    IsLeast { x : Nat | micro ≤ x * 1000 } (estimateMs operations n)) ∧
  (∀ authHit sealHit : Bool,
    openCost authHit sealHit = 4 + (if authHit = true then 0 else 1) + (if sealHit = true then 0 else 1)) ∧
  ∀ (s : State) (dwell cost : Nat),
    s.openEstimate dwell cost = estimateMs
      ((s.contexts.map fun c => if c.isFailed = false ∧ c.deadline ≤ s.nowMs + dwell then c.reserved else 0).sum
        + (s.jobs.map fun j =>
            if j.work.isKeyset = true ∧ j.time ≤ s.nowMs + dwell then j.operations.length else 0).sum
        + cost) s.unitsServing

/-- R80: a VERIFY of a context, in every state of the context. -/
def Obligations.VerifyOutcomes : Prop :=
  ∀ (s : State) (h : Handle) (proof : Half),
    (s.takes (.verify h proof) → s.service ≠ .serviceOn → Refuses (.verify h proof) s .notInService) ∧
    (s.inService → ∀ n c, s.resolveHandle h = some (n, c) →
      (∀ reason l, c.state = .failed reason l → Refuses (.verify h proof) s (.txnFailed reason l)) ∧
      (∀ l, c.state = .live l → l ≠ .awaitTag → Refuses (.verify h proof) s (.wrongState (.live l))) ∧
      (∀ stamp x, c.state = .sealed stamp x → Refuses (.verify h proof) s (.wrongState (.sealed stamp x))) ∧
      (c.state = .live .awaitTag → c.authTaint = true →
        exec (.verify h proof) s = .next ((s.failed n c .awaitTag .keyWithdrawn false).answered (.verify h proof)
          (.refuse (.keyWithdrawn .auth)))) ∧
      (c.state = .live .awaitTag → c.authTaint = false →
        exec (.verify h proof) s
          = .next ((((s.setPlaces (s.places.set n ⟨h.toNat / 64, some { c with state := .live .verifying }⟩)).place
              (.verifying c.handle proof) [.tagProof] c.deadline).arbitrate).answered (.verify h proof)
              (.verifying c.handle c.deadline))))

/-- R82, R133, R60: a SEAL of a context, its refusals in order, and the record and the job of a SEAL that is taken. -/
def Obligations.SealOutcomes : Prop :=
  ∀ (s : State) (h : Handle) (vehicleClass : Byte) (charge : BitVec 32) (sequence : BitVec 16),
    let i : Instr := .sealTag h vehicleClass charge sequence
    (s.takes i → s.service ≠ .serviceOn → Refuses i s .notInService) ∧
    (s.inService → ∀ n c, s.resolveHandle h = some (n, c) →
      (∀ reason l, c.state = .failed reason l → Refuses i s (.txnFailed reason l)) ∧
      (∀ l, c.state = .live l → l ≠ .authenticated → Refuses i s (.wrongState (.live l))) ∧
      (∀ stamp x, c.state = .sealed stamp x → Refuses i s (.wrongState (.sealed stamp x))) ∧
      (c.state = .live .authenticated →
        (vehicleClass.toNat = 0 ∨ 15 < vehicleClass.toNat → Refuses i s (.badField 2 0)) ∧
        (1 ≤ vehicleClass.toNat → vehicleClass.toNat ≤ 15 →
          (9999999 < charge.toNat → Refuses i s (.badField 3 0)) ∧
          (charge.toNat ≤ 9999999 →
            (c.sealTaint = true →
              exec i s = .next ((s.failed n c .authenticated .keyWithdrawn false).answered i
                (.refuse (.keyWithdrawn .seal)))) ∧
            (c.sealTaint = false →
              let record : SealRecord := {
                serial := c.serial, issuer := c.issuer, authGeneration := c.generation, sealGeneration := c.sealGeneration
                gantry := s.settings.gantry, lane := c.lane, vehicleClass := vehicleClass, charge := charge
                sequence := sequence, stamp := s.nowMs }
              let pin := ∃ e ∈ s.cache, e.pin = some c.handle ∧ e.role = .seal
              let hit := cacheHit s.cache c.issuer c.serial c.sealGeneration .seal
              let taken := fun (u : State) (operations : List Operation) =>
                Host.Outcome.next ((((u.setPlaces (s.places.set n ⟨h.toNat / 64,
                    some { c with state := .live .sealing, reserved := operations.length }⟩)).place
                  (.sealing c.handle record none) operations c.deadline).arbitrate).answered i
                  (.sealing c.handle s.nowMs operations.length))
              (pin → exec i s = taken s [.sealFirst, .sealSecond]) ∧
              (¬ pin → hit = true →
                exec i s = taken ((s.touch c.issuer c.serial c.sealGeneration .seal).pinEntry c.handle c.issuer c.serial
                  c.sealGeneration .seal) [.sealFirst, .sealSecond]) ∧
              (¬ pin → hit = false →
                exec i s = taken s
                  [.derive .seal c.sealGeneration c.sealKey.slot c.sealKey.epoch, .sealFirst, .sealSecond]))))))

/-- R84, R64: every change to FAILED. Whatever command turns a live context FAILED, the context keeps its fields but the state,
the reserved operations, which become 0, and the taint flags; its job is gone, no entry is pinned by it, and its FAILED record
is posted (or lost in a full queue), save in a refused VERIFY or SEAL, which posts none. Each such change is one failContext,
which leaves the rest of the state, and the order of the cache, as they were; a context that is not live does not fail again. -/
def Obligations.FailureEffects : Prop :=
  (∀ (s : State) (n : Nat) (reason : FailReason) (posted : Bool),
    (∀ c l, s.contextAt n = some c → c.state = .live l → s.failContext n reason posted = s.failed n c l reason posted) ∧
    ((∀ c l, s.contextAt n = some c → c.state ≠ .live l) → s.failContext n reason posted = s)) ∧
  ∀ (i : Instr) (s t : State) (n : Nat) (c d : Context) (l m : LiveState) (reason : FailReason), s.workLawful →
    exec i s = .next t → s.contextAt n = some c → c.state = .live l → t.contextAt n = some d → d.state = .failed reason m →
    m = l ∧ d = { c with state := .failed reason l, reserved := 0, authTaint := d.authTaint, sealTaint := d.sealTaint } ∧
    (∀ j ∈ t.jobs, j.work.owner ≠ some c.handle) ∧ (∀ e ∈ t.cache, e.pin ≠ some c.handle) ∧
    ((∃ h p, i = .verify h p) ∨ (∃ h v q r, i = .sealTag h v q r) → t.queue = s.queue) ∧
    ((∀ h p, i ≠ .verify h p) → (∀ h v q r, i ≠ .sealTag h v q r) → s.service ≠ .zeroized →
      .failed c.handle c.lane reason l ∈ t.queue.records ∨ t.queue.overflow = true)

/-- R86, R88, R64: CLOSE, in every state of the context, and the linger end free the context with the same effects; only CLOSE
answers. That a LINGER_END that is not due has no effect is the model's choice (log 3). -/
def Obligations.CloseAndLingerEndFree : Prop :=
  ∀ (s : State) (n : Nat) (c : Context),
    (∀ h, s.takes (.close h) → s.resolveHandle h = some (n, c) →
      exec (.close h) s = .next ((s.freed n c).answered (.close h)
        (.closed c.state c.authTaint c.sealTaint (s.jobs.any fun j => decide (j.work.owner = some c.handle))))) ∧
    (s.power = .running → s.contextAt n = some c →
      (∀ now, s.clock.time = some now → c.deadline + 2000 ≤ now → exec (.lingerEnd n) s = .next (s.freed n c)) ∧
      ((∀ now, s.clock.time = some now → now < c.deadline + 2000) → exec (.lingerEnd n) s = .next s))

/-- R87: QUERY answers the fields of the context and its job status, and changes nothing. -/
def Obligations.QueryReadsTheContext : Prop :=
  ∀ (s : State) (h : Handle), s.takes (.query h) →
    (s.resolveHandle h = none → Refuses (.query h) s (.unknownHandle h)) ∧
    (∀ n c, s.resolveHandle h = some (n, c) →
      ((∀ j ∈ s.jobs, j.work.owner ≠ some c.handle) →
        exec (.query h) s = .next (s.answered (.query h) (.context c .none))) ∧
      (∀ j, s.jobs.find? (fun j => decide (j.work.owner = some c.handle)) = some j →
        exec (.query h) s
          = .next (s.answered (.query h) (.context c (if j.running = true then .running else .waiting)))))

/-- R88: the deadline event fails a live context with EXPIRED, once lane time has reached its deadline. That a DEADLINE_EVENT
that is not due has no effect is the model's choice (log 3). -/
def Obligations.DeadlineExpiresLiveContexts : Prop :=
  ∀ (s : State) (n : Nat) (c : Context), s.power = .running → s.contextAt n = some c →
    (∀ now, s.clock.time = some now → c.deadline ≤ now →
      (∀ l, c.state = .live l →
        exec (.deadlineEvent n) s = .next (s.failed n c l .expired true)) ∧
      ((∀ l, c.state ≠ .live l) → exec (.deadlineEvent n) s = .next s)) ∧
    ((∀ now, s.clock.time = some now → now < c.deadline) → exec (.deadlineEvent n) s = .next s)

/-! ### The Derived Key Cache (04) -/

/-- R68, R58, R69: the outcome of a PREFETCH, its first case that applies, and the job that it places. -/
def Obligations.PrefetchOutcomes : Prop :=
  ∀ (s : State) (issuer : Issuer) (serial : Serial) (generation : Generation),
    let i : Instr := .prefetch issuer serial generation
    (s.takes i → s.service ≠ .serviceOn → Refuses i s .notInService) ∧
    (s.inService →
      (issuer = 0 ∨ issuer = 0xFFFF → Refuses i s (.badField 0 0)) ∧
      (issuer ≠ 0 → issuer ≠ 0xFFFF →
        (∀ r, resolveAuth s.slots issuer generation s.nowSeconds = .error r →
          exec i s = .next (s.answered i (.prefetched (.noKey .auth r)))) ∧
        (∀ auth, resolveAuth s.slots issuer generation s.nowSeconds = .ok auth →
          (∀ r, resolveSeal s.slots issuer generation s.nowSeconds = .error r →
            exec i s = .next (s.answered i (.prefetched (.noKey .seal r)))) ∧
          (∀ sealKey sealGeneration,
            resolveSeal s.slots issuer generation s.nowSeconds = .ok (sealKey, sealGeneration) →
            let authHit := cacheHit s.cache issuer serial generation .auth
            let sealHit := cacheHit s.cache issuer serial sealGeneration .seal
            let isAuth := CacheEntry.isLiveFor issuer serial generation .auth
            let isSeal := CacheEntry.isLiveFor issuer serial sealGeneration .seal
            let authFirst := s.cache.filter isAuth ++ s.cache.filter fun e => !isAuth e
            let looked := s.setCache (authFirst.filter isSeal ++ authFirst.filter fun e => !isSeal e)
            (authHit = true → sealHit = true → exec i s = .next (looked.answered i (.prefetched .cached))) ∧
            (authHit = false ∨ sealHit = false →
              (s.thermal.state = .suspended ∨ 15 ≤ prefetchJobs s.jobs →
                exec i s = .next (looked.answered i (.prefetched .dropped))) ∧
              (s.thermal.state ≠ .suspended → prefetchJobs s.jobs < 15 →
                let operations :=
                  (if authHit = true then [] else [.derive .auth generation auth.slot auth.epoch])
                    ++ (if sealHit = true then [] else [.derive .seal sealGeneration sealKey.slot sealKey.epoch])
                exec i s = .next (((looked.place (.prefetch issuer serial) operations s.nowMs).arbitrate).answered i
                  (.prefetched (.queued operations.length)))))))))

/-- R66: PURGE acts on the aligned range of 2^e serials: it removes the unpinned live entries, dooms the pinned ones, and
leaves every other entry and the order. -/
def Obligations.PurgeActsOnItsRange : Prop :=
  ∀ (s : State) (issuer : Issuer) (base : Serial) (exponent : Byte), s.takes (.purge issuer base exponent) →
    (issuer = 0 ∨ issuer = 0xFFFF → Refuses (.purge issuer base exponent) s (.badField 0 0)) ∧
    (issuer ≠ 0 → issuer ≠ 0xFFFF →
      let e := if 32 < exponent.toNat then 32 else exponent.toNat
      let first := base.toNat - base.toNat % 2 ^ e
      let hit := fun x : CacheEntry =>
        decide (x.issuer = issuer ∧ first ≤ x.serial.toNat ∧ x.serial.toNat < first + 2 ^ e ∧ x.doom = none)
      exec (.purge issuer base exponent) s
        = .next ((s.setCache (s.cache.filterMap fun x =>
            if hit x = false then some x
            else if x.pin = none then none
            else some { x with doom := some .purged })).answered (.purge issuer base exponent)
          (.purged e first (s.cache.countP fun x => hit x && decide (x.pin = none))
            (s.cache.countP fun x => hit x && decide (x.pin ≠ none)))))

/-- R61, R62, R129: what the insertion of a completed derivation does to the cache; nothing else changes. -/
def Obligations.InsertionOutcomes : Prop :=
  ∀ (s : State) (issuer : Issuer) (serial : Serial) (generation : Generation) (role : Role) (slot : Nat) (epoch : Epoch)
    (pin : Option Handle) (masterKey : Key),
    let after := s.insert issuer serial generation role slot epoch pin (some masterKey)
    let isLive := CacheEntry.isLiveFor issuer serial generation role
    let entry : CacheEntry :=
      ⟨issuer, serial, generation, role, encipher masterKey (diversification serial issuer generation role), slot, epoch, pin,
        none⟩
    ((∀ k n, s.slots[slot]? ≠ some ⟨some k, epoch, n⟩) → after = s) ∧
    (∀ k n, s.slots[slot]? = some ⟨some k, epoch, n⟩ →
      (s.cache.any isLive = true →
        after = s.setCache ((s.cache.filter isLive).map (fun e => { e with pin := pin.or e.pin })
          ++ s.cache.filter fun e => !isLive e)) ∧
      (s.cache.any isLive = false →
        (s.cache.length < 256 → after = s.setCache (entry :: s.cache)) ∧
        (256 ≤ s.cache.length → ∀ front victim back, s.cache = front ++ victim :: back → victim.pin = none →
          (∀ e ∈ back, e.pin.isSome = true) → after = s.setCache (entry :: (front ++ back)))))

/-! ### The Completion Queue and STATUS (11) -/

/-- R168: COLLECT removes the oldest records and clears the overflow mark that it reports; a COLLECT begun outside SERVICE_OFF
and SERVICE_ON is refused first. -/
def Obligations.CollectRemovesTheOldest : Prop :=
  ∀ (s : State) (count : Byte), RefusedFirst (.collect count) ∧ (s.takes (.collect count) →
    let n := if count.toNat = 0 then 1 else if 7 < count.toNat then 7 else count.toNat
    exec (.collect count) s
      = .next ((s.setQueue ⟨s.queue.records.drop n, false⟩).answered (.collect count)
          (.collected (s.queue.records.take n) (s.queue.records.length - n) s.queue.overflow)))

/-- R170: the fields of a STATUS, in every service state. A STATUS in a frame is answered with the fields as they stand in the
event in which the Lane Link begins it: the arrival of its frame at an empty answer list, or the end of the reply before it. A
STATUS command without a frame is the model's choice (log 1). -/
def Obligations.StatusReports : Prop :=
  ∀ s : State, s.power = .running →
    let fields : StatusReport := {
      service := s.service
      time := s.clock.time
      debt := match s.clock.time with
        | some _ => s.clock.debt
        | none => 0
      mask := s.mask
      health0 := s.u0.health
      placement0 := s.u0.placement
      activity0 := s.u0.activityKind
      health1 := s.u1.health
      placement1 := s.u1.placement
      activity1 := s.u1.activityKind
      thermalState := s.thermal.state
      lastReading := s.thermal.lastReading
      hotCount := s.thermal.hotCount
      contexts := s.places.countP fun p => p.context.isSome
      workDepth := s.jobs.length
      queueDepth := s.queue.records.length
      overflow := s.queue.overflow
      staging := s.stager.kind
      counter := s.stager.counter
      slots := s.slots.countP fun x => x.held.isSome
      rollovers := s.rollovers.length
      checkValue := if s.service = .zeroized then none else s.transport.map (·.checkValue) }
    exec .status s = .next (s.answered .status (.status fields)) ∧
    (∀ c last tag received, c = .byteReceived last ∨ c = .frameReceived last → s.link.entries = [] →
      s.link.receiver = .inFrame 2 received → received ++ [last] = [0x08, tag] ++ toBytes 2 (crc16 [2, 0x08, tag]).toNat →
      exec c s = .next (s.setLink ⟨.hunting, [.request 0x08 tag []], .sending tag (.status fields)⟩)) ∧
    (∀ tag a before tag' rest, s.restarting = false → s.link.stage = .sending tag a →
      s.link.entries = before :: .request 0x08 tag' [] :: rest →
      exec .replyComplete s = .next (s.setLink
        ⟨s.link.receiver, .request 0x08 tag' [] :: rest, .sending tag' (.status fields)⟩))

/-! ### Key set loading (02) -/

/-- R23 to R25: STAGE_BEGIN starts a load, STAGE_CHUNK appends to it and STAGE_ABANDON ends it, in every staging state, each
with its checks in order. The BAD_LENGTH of a STAGE_CHUNK of no bytes or of more than 240 is that of check 2 of R163, with the
body length in the detail; that a command carries such a chunk at all, with a body length beyond a byte taken modulo 256, is the
model's choice (log 28). -/
def Obligations.StagingRequests : Prop :=
  ∀ (s : State) (declared offset : BitVec 16) (imageId : BitVec 32) (bytes : List Byte),
    (s.takes (.stageBegin declared imageId) →
      (∀ l, s.stager = .committing l → Refuses (.stageBegin declared imageId) s .busy) ∧
      ((∀ l, s.stager ≠ .committing l) →
        ((¬ ∃ n, 1 ≤ n ∧ n ≤ 24 ∧ declared.toNat = 8 + 32 * n) →
          Refuses (.stageBegin declared imageId) s (.badField 0 0)) ∧
        (∀ n, 1 ≤ n → n ≤ 24 → declared.toNat = 8 + 32 * n →
          exec (.stageBegin declared imageId) s
            = .next ((s.setStager (.receiving ⟨declared.toNat, imageId, []⟩)).answered (.stageBegin declared imageId)
                (.stageBegun n (!decide (s.stager = .idle))))))) ∧
    (s.power = .running → bytes.length = 0 ∨ 240 < bytes.length →
      Refuses (.stageChunk offset bytes) s (.badLength (BitVec.ofNat 8 (bytes.length + 2)))) ∧
    (s.takes (.stageChunk offset bytes) → 1 ≤ bytes.length → bytes.length ≤ 240 →
      (s.stager = .idle → Refuses (.stageChunk offset bytes) s .stagingIdle) ∧
      (∀ l, s.stager = .committing l → Refuses (.stageChunk offset bytes) s .busy) ∧
      (∀ l, s.stager = .receiving l →
        (offset.toNat ≠ l.buffer.length →
          Refuses (.stageChunk offset bytes) s (.outOfSequence l.buffer.length)) ∧
        (offset.toNat = l.buffer.length →
          (l.declared < offset.toNat + bytes.length →
            Refuses (.stageChunk offset bytes) s (.overlength l.declared l.buffer.length)) ∧
          (offset.toNat + bytes.length ≤ l.declared →
            exec (.stageChunk offset bytes) s
              = .next ((s.setStager (.receiving { l with buffer := l.buffer ++ bytes })).answered (.stageChunk offset bytes)
                  (.chunkTaken (l.buffer.length + bytes.length))))))) ∧
    (s.takes .stageAbandon →
      (s.stager = .idle → exec .stageAbandon s = .next (s.answered .stageAbandon (.abandoned 0))) ∧
      (∀ l, s.stager = .receiving l →
        exec .stageAbandon s = .next ((s.setStager .idle).answered .stageAbandon (.abandoned l.buffer.length))) ∧
      (∀ l, s.stager = .committing l → Refuses .stageAbandon s .busy))

/-- R26 to R29: STAGE_COMMIT, its five checks in order, each with its effect on the load, and the start of the commit. -/
def Obligations.StageCommitOutcomes : Prop :=
  ∀ (s : State) (crc : BitVec 32), s.takes (.stageCommit crc) →
    let i : Instr := .stageCommit crc
    let ends := fun r : Refuse => exec i s = .next ((s.setStager .idle).answered i (.refuse r))
    (s.stager = .idle → Refuses i s .stagingIdle) ∧
    (∀ l, s.stager = .committing l → Refuses i s .busy) ∧
    (∀ l, s.stager = .receiving l →
      let n := (l.declared - 8) / 32
      (l.buffer.length < l.declared → Refuses i s (.incomplete l.buffer.length l.declared)) ∧
      (l.declared ≤ l.buffer.length →
        let computed := crc32 (l.buffer.take l.declared)
        (computed ≠ crc → ends (.imageCrc computed)) ∧
        (computed = crc →
          (∀ record, imageFault l = some record → ends (.badImage record)) ∧
          (imageFault l = none →
            (∀ k slot, firstConflict s.slots [] l.records = some (k, slot) → ends (.conflict k slot)) ∧
            (firstConflict s.slots [] l.records = none →
              (emptySlots s.slots < n → ends (.directoryFull n (emptySlots s.slots))) ∧
              (n ≤ emptySlots s.slots →
                exec i s = .next ((((s.setStager (.committing l)).place (.keyset l [] [])
                    ((List.range n).flatMap fun k => [.unwrap k, .check k])
                    (match s.clock.time with
                      | some now => now + 250
                      | none => 0)).arbitrate).answered i (.commitStarted n (2 * n)))))))))

/-- R27, R28: when the structure of an image passes, and when no record of it conflicts. -/
def Obligations.ImageChecks : Prop :=
  (∀ l : Load, imageFault l = none ↔
    fieldAt l.buffer 4 1 = (l.declared - 8) / 32 ∧ fieldAt l.buffer 5 1 = 1 ∧ fieldAt l.buffer 0 4 = l.imageId.toNat ∧
      ∀ r ∈ l.records, r.issuer ≠ 0 ∧ r.issuer ≠ 0xFFFF ∧ (r.role = 1 ∨ r.role = 2) ∧ (r.initial = 0 ∨ r.initial = 1)
        ∧ r.notBefore.toNat < r.notAfter.toNat) ∧
  (∀ (l : Load) (k : Nat), imageFault l = some (some k) → ∃ r, l.records[k]? = some r ∧ r.fault = true ∧
    ∀ m x, m < k → l.records[m]? = some x → x.fault = false) ∧
  ∀ (slots : List Slot) (records : List ImageRecord), firstConflict slots [] records = none ↔
    records.Pairwise (fun a b =>
      ¬ (a.issuer = b.issuer ∧ a.generation = b.generation ∧ a.roleOf = b.roleOf) ∧
      ¬ (a.issuer = b.issuer ∧ a.roleOf = .seal ∧ b.roleOf = .seal ∧ a.stateOf = .active ∧ b.stateOf = .active)) ∧
    ∀ r ∈ records, ∀ n k, heldAt slots n = some k → k.issuer = r.issuer →
      ¬ (k.generation = r.generation ∧ k.role = r.roleOf) ∧
      ¬ (r.roleOf = .seal ∧ r.stateOf = .active ∧ k.role = .seal ∧ k.state = .active)

/-! ### The Key Directory (01) -/

/-- R17: KEY_READ answers the record of a slot that is not EMPTY, and an ABSENT record otherwise; it changes nothing. -/
def Obligations.KeyReadReportsTheSlot : Prop :=
  ∀ (s : State) (index : Byte), s.takes (.keyRead index) ∨ (s.power = .running ∧ s.service = .halted) →
    (∀ k e n, s.slots[index.toNat]? = some ⟨some k, e, n⟩ →
      exec (.keyRead index) s = .next (s.answered (.keyRead index)
        (.keyPresent index k.state k.issuer k.generation k.role k.notBefore k.notAfter k.checkValue e n))) ∧
    ((∀ k e n, s.slots[index.toNat]? ≠ some ⟨some k, e, n⟩) →
      exec (.keyRead index) s = .next (s.answered (.keyRead index) (.keyAbsent index)))

/-- R15: KEY_WITHDRAW withdraws the slots of its issuer, generation and role set, in ascending order, and counts the contexts
that it taints. -/
def Obligations.KeyWithdrawOutcomes : Prop :=
  ∀ (s : State) (issuer : Issuer) (generation : Generation) (roles : Byte),
    s.takes (.keyWithdraw issuer generation roles) →
    let i : Instr := .keyWithdraw issuer generation roles
    let matching := fun n => ∃ k, heldAt s.slots n = some k ∧ k.issuer = issuer ∧ k.generation = generation ∧
      ((roles.getLsbD 0 = true ∧ k.role = .auth) ∨ (roles.getLsbD 1 = true ∧ k.role = .seal))
    (issuer = 0 ∨ issuer = 0xFFFF → Refuses i s (.badField 0 0)) ∧
    (issuer ≠ 0 → issuer ≠ 0xFFFF →
      (roles.toNat = 0 ∨ 3 < roles.toNat → Refuses i s (.badField 3 0)) ∧
      (1 ≤ roles.toNat → roles.toNat ≤ 3 →
        ((∀ n, ¬ matching n) → Refuses i s (.noKey roles none generation)) ∧
        (∀ found : List Nat, found ≠ [] → found.Pairwise (· < ·) → (∀ n, n ∈ found ↔ matching n) →
          exec i s = .next ((s.withdraw found).answered i (.withdrawn found
            (s.contexts.countP fun c =>
              reaches s.slots found c.auth.slot c.auth.epoch || reaches s.slots found c.sealKey.slot c.sealKey.epoch))))))

/-- R10 to R14: a withdrawal of some slots that hold keys, as KEY_WITHDRAW, WINDOW_END and phase 4 of a rollover make it. It
empties the slots with their epochs kept. Of the live entries derived from them it removes the unpinned ones and dooms the
pinned ones WITHDRAWN, and it leaves every other entry. It taints the contexts bound to them, and fails those whose job consumes
a tainted role: their jobs leave the Work Queue and no other, and their pins are released. The entries left stand in their
order. It removes the rollover records that name the slots, and posts FAILED records in ascending index and then ABANDONED
records; the rest of the state is unchanged. -/
def Obligations.WithdrawalEffects : Prop :=
  ∀ (s : State) (found : List Nat), (∀ n ∈ found, (heldAt s.slots n).isSome = true) →
    let t := s.withdraw found
    let reached := fun (slot : Nat) (epoch : Epoch) =>
      decide (slot ∈ found ∧ (s.slots[slot]?).any (fun x => decide (x.epoch = epoch)) = true)
    let hitAuth := fun c : Context => reached c.auth.slot c.auth.epoch
    let hitSeal := fun c : Context => reached c.sealKey.slot c.sealKey.epoch
    let fails := fun c : Context => c.isLive &&
      (s.jobs.find? fun j => decide (j.work.owner = some c.handle)).any fun j =>
        match j.work.consumes with
        | some .auth => hitAuth c
        | some .seal => hitSeal c
        | none => false
    let failing := s.contexts.filter fails
    (∀ n, t.slots[n]? = (s.slots[n]?).map fun x => if n ∈ found then ⟨none, x.epoch, 0⟩ else x) ∧
    (∀ n, t.contextAt n = (s.contextAt n).map fun c =>
      let d : Context := { c with
        authTaint := c.authTaint || hitAuth c
        sealTaint := c.sealTaint || hitSeal c }
      match c.state with
      | .live l => if fails c = true then { d with state := .failed .keyWithdrawn l, reserved := 0 } else d
      | _ => d) ∧
    t.cache = pinsReleased (failing.map (·.handle)) (s.cache.filterMap fun e =>
      if e.doom = none ∧ reached e.sourceSlot e.sourceEpoch = true then
        (if e.pin = none then none else some { e with doom := some .withdrawn })
      else some e) ∧
    t.jobs = jobsWithout (failing.map (·.handle)) s.jobs ∧
    t.rollovers = (s.rollovers.filter fun r => !r.names found) ∧
    (s.service ≠ .zeroized →
      t.queue = ((s.contexts.filterMap fun c => match c.state with
          | .live l =>
            if fails c = true then some (CompletionRecord.failed c.handle c.lane .keyWithdrawn l) else none
          | _ => none)
        ++ (s.rollovers.filter fun r => r.names found).map fun r =>
            CompletionRecord.rolloverPhase r.issuer r.a r.b r.reached .abandoned 0).foldl CompletionQueue.push s.queue) ∧
    t = { s with slots := t.slots, places := t.places, cache := t.cache, jobs := t.jobs, rollovers := t.rollovers, queue := t.queue }

/-! ### Generation rollover (03) -/

/-- R40 to R43: a ROLLOVER, its checks in order, and the record that it creates. The slots are checked in the order A AUTH, A
SEAL, B AUTH, B SEAL: a missing slot is refused NO_KEY with its role and generation, and a slot in another state SLOT_STATE with
its index, state, generation and role. -/
def Obligations.RolloverOutcomes : Prop :=
  ∀ (s : State) (issuer : Issuer) (a b : Generation) (start : BitVec 32) (d1 d2 d3 : BitVec 16),
    s.takes (.rollover issuer a b start d1 d2 d3) →
    let i : Instr := .rollover issuer a b start d1 d2 d3
    (s.clock.time = none → Refuses i s .noTime) ∧
    (∀ now, s.clock.time = some now →
      let p1 := max start.toNat (now / 1000)
      let p2 := p1 + 60 * d1.toNat
      let p3 := p2 + 60 * d2.toNat
      let p4 := p3 + 60 * d3.toNat
      (issuer = 0 ∨ issuer = 0xFFFF → Refuses i s (.badField 0 0)) ∧
      (issuer ≠ 0 → issuer ≠ 0xFFFF →
        (a = b → Refuses i s (.badField 3 0)) ∧
        (a ≠ b →
          (10080 < d1.toNat → Refuses i s (.badField 8 0)) ∧
          (d1.toNat ≤ 10080 → 10080 < d2.toNat → Refuses i s (.badField 10 0)) ∧
          (d1.toNat ≤ 10080 → d2.toNat ≤ 10080 → 10080 < d3.toNat → Refuses i s (.badField 12 0)) ∧
          (d1.toNat ≤ 10080 → d2.toNat ≤ 10080 → d3.toNat ≤ 10080 →
            (4294967295 < p4 → Refuses i s (.badField 4 0)) ∧
            (p4 ≤ 4294967295 →
              (∀ r, s.rollovers.find? (fun r => decide (r.issuer = issuer)) = some r →
                Refuses i s (.rolloverConflict r.a r.b r.reached)) ∧
              ((∀ r ∈ s.rollovers, r.issuer ≠ issuer) →
                (8 ≤ s.rollovers.length → Refuses i s .rolloverFull) ∧
                (s.rollovers.length < 8 →
                  (triplesUnique s.slots → ∀ r,
                    (slotRefusal s.slots issuer a .auth .active r → Refuses i s r) ∧
                    ∀ x1, holds s.slots x1 issuer a .auth .active →
                      (slotRefusal s.slots issuer a .seal .active r → Refuses i s r) ∧
                      ∀ x2, holds s.slots x2 issuer a .seal .active →
                        (slotRefusal s.slots issuer b .auth .standby r → Refuses i s r) ∧
                        ∀ x3, holds s.slots x3 issuer b .auth .standby →
                          slotRefusal s.slots issuer b .seal .standby r → Refuses i s r) ∧
                  (∀ x1 x2 x3 x4, triplesUnique s.slots →
                    holds s.slots x1 issuer a .auth .active → holds s.slots x2 issuer a .seal .active →
                    holds s.slots x3 issuer b .auth .standby → holds s.slots x4 issuer b .seal .standby →
                    exec i s = .next ((s.setRollovers
                        (addRollover ⟨issuer, a, b, x1, x2, x3, x4, p1, p2, p3, p4, 0⟩ s.rollovers)).answered i
                        (.rolloverPlanned p1 p2 p3 p4 x1 x2 x3 x4))))))))))

/-- R44 to R48, R50: the next phase of a record, when lane time has reached its time: phases 1 to 3 change the slots and the
phase reached; phase 4 removes the record and withdraws the A slots. That a PHASE_DUE that is not due has no effect is the
model's choice (log 3). -/
def Obligations.PhasesAreApplied : Prop :=
  ∀ (s : State) (issuer : Issuer) (r : Rollover), s.power = .running →
    s.rollovers.find? (fun r => decide (r.issuer = issuer)) = some r → r.reached ≤ 3 →
    let time := match r.reached with
      | 0 => r.p1
      | 1 => r.p2
      | 2 => r.p3
      | _ => r.p4
    let reaching := fun (slots : List Slot) => (s.setSlots slots).setRollovers
      (s.rollovers.map fun x => if x.issuer = issuer then { x with reached := x.reached + 1 } else x)
    let applied := CompletionRecord.rolloverPhase issuer r.a r.b (r.reached + 1) .applied time
    ((∀ now, s.clock.time = some now → now < time * 1000) → exec (.phaseDue issuer) s = .next s) ∧
    (∀ now, s.clock.time = some now → time * 1000 ≤ now →
      (r.reached = 0 →
        exec (.phaseDue issuer) s = .next ((reaching (setKeyState s.slots r.bAuth .active)).post applied)) ∧
      (r.reached = 1 →
        exec (.phaseDue issuer) s
          = .next ((reaching (setKeyState (setKeyState s.slots r.bSeal .active) r.aSeal .draining)).post applied)) ∧
      (r.reached = 2 →
        exec (.phaseDue issuer) s = .next ((reaching (setKeyState s.slots r.aAuth .draining)).post applied)) ∧
      (r.reached = 3 →
        exec (.phaseDue issuer) s
          = .next (((s.setRollovers (s.rollovers.filter fun x => !decide (x.issuer = issuer))).withdraw
              ([r.aAuth, r.aSeal].filter fun n => (heldAt s.slots n).isSome)).post applied)))

/-- R51: ROLLBACK undoes the phases reached: the four slots end as in the row for phase 0 of R39 with their keys, epochs and
bound counts kept, other slots are unchanged, the record leaves and ROLLED_BACK is posted. -/
def Obligations.RollbackUndoesThePhases : Prop :=
  ∀ (s : State) (issuer : Issuer), RefusedFirst (.rollback issuer) ∧ (s.takes (.rollback issuer) →
    (issuer = 0 ∨ issuer = 0xFFFF → Refuses (.rollback issuer) s (.badField 0 0)) ∧
    (issuer ≠ 0 → issuer ≠ 0xFFFF →
      ((∀ r ∈ s.rollovers, r.issuer ≠ issuer) → Refuses (.rollback issuer) s .noRollover) ∧
      (∀ r, s.rollovers.find? (fun r => decide (r.issuer = issuer)) = some r → r.lawful s.slots →
        ∃ slots : List Slot,
          exec (.rollback issuer) s
            = .next ((((s.setSlots slots).setRollovers (s.rollovers.filter fun x => !decide (x.issuer = issuer))).post
                (.rolloverPhase issuer r.a r.b r.reached .rolledBack 0)).answered (.rollback issuer)
                (.rolledBack r.a r.b r.reached)) ∧
          holds slots r.aAuth issuer r.a .auth .active ∧ holds slots r.aSeal issuer r.a .seal .active ∧
          holds slots r.bAuth issuer r.b .auth .standby ∧ holds slots r.bSeal issuer r.b .seal .standby ∧
          slots.length = s.slots.length ∧
          (∀ n, n ≠ r.aAuth → n ≠ r.aSeal → n ≠ r.bAuth → n ≠ r.bSeal → slots[n]? = s.slots[n]?) ∧
          ∀ (n : Nat) (x y : Slot), s.slots[n]? = some x → slots[n]? = some y → y.epoch = x.epoch ∧ y.bound = x.bound ∧
            y.held.map (fun k => { k with state := .active }) = x.held.map fun k => { k with state := .active })))

/-! ### Lane time, lanes and service (09) -/

/-- R139: the four cases of a TIME; a TIME begun outside SERVICE_OFF and SERVICE_ON is refused first. -/
def Obligations.TimeSetsStepsOrSlews : Prop :=
  ∀ (s : State) (value : BitVec 48), RefusedFirst (.time value) ∧ (s.takes (.time value) →
    (s.clock.time = none →
      exec (.time value) s = .next ((s.setClock ⟨some value.toNat, 0, s.clock.base⟩).answered (.time value)
        (.timeTaken .set value.toNat 0))) ∧
    (∀ now, s.clock.time = some now →
      (now ≤ value.toNat →
        exec (.time value) s = .next ((s.setClock ⟨some value.toNat, 0, s.clock.base⟩).answered (.time value)
          (.timeTaken .step value.toNat 0))) ∧
      (value.toNat < now → now - value.toNat ≤ 2000 →
        exec (.time value) s = .next ((s.setClock ⟨some now, now - value.toNat, s.clock.base⟩).answered (.time value)
          (.timeTaken .slew now (now - value.toNat)))) ∧
      (value.toNat < now → 2000 < now - value.toNat → Refuses (.time value) s (.timeBackward now))))

/-- R137, R138, R140: a tick advances lane time by 1 ms unless it is UNSET or at its largest value, in 1 ms of real time or,
while a debt is absorbed, in 2. A slew of d ms is absorbed in d ticks; lane time then stands where the time base has advanced
as far beyond the value requested. The time base and its count per tick are the model's (log 5, log 16). -/
def Obligations.TicksAdvanceLaneTime : Prop :=
  (∀ s : State, s.power = .running →
    (s.clock.time = none → exec .laneTimeTick s = .next (s.setClock { s.clock with base := s.clock.base + 1 })) ∧
    (∀ now, s.clock.time = some now → now < 281474976710655 →
      exec .laneTimeTick s = .next (s.setClock
        (if s.clock.debt = 0 then ⟨some (now + 1), 0, s.clock.base + 1⟩
         else ⟨some (now + 1), s.clock.debt - 1, s.clock.base + 2⟩))) ∧
    (∀ now, s.clock.time = some now → 281474976710655 ≤ now →
      exec .laneTimeTick s = .next (s.setClock { s.clock with base := s.clock.base + 1 }))) ∧
  ∀ (c : LaneClock) (now value : Nat), c.time = some now → value + c.debt = now → now + c.debt ≤ 281474976710655 →
    let after := LaneClock.tick^[c.debt] c
    after.debt = 0 ∧ after.time = some (value + (after.base - c.base)) ∧ after.base = c.base + 2 * c.debt

/-- R143, R89: LANES disables the lanes of the clear mask and then enables those of the set mask; every live context of a lane
that it disables fails with LANE_OFF, in ascending index. R144, R157: CONFIG takes six values, each clamped to its range, COOL
against HOT as taken; nothing else changes. -/
def Obligations.LanesAndConfig : Prop :=
  (∀ (s : State) (setMask clearMask : Byte), s.takes (.lanes setMask clearMask) →
    (setMask &&& clearMask ≠ 0 →
      Refuses (.lanes setMask clearMask) s (.badField 0 (setMask &&& clearMask))) ∧
    (setMask &&& clearMask = 0 → ∃ (mask : Byte) (indices : List Nat),
      (∀ k, k < 8 → mask.getLsbD k
        = (setMask.getLsbD k || (s.mask.getLsbD k && !clearMask.getLsbD k))) ∧
      indices.Pairwise (· < ·) ∧
      (∀ n, n ∈ indices ↔ ∃ c l, s.contextAt n = some c ∧ c.state = .live l ∧ s.mask.getLsbD c.lane.toNat = true
        ∧ mask.getLsbD c.lane.toNat = false) ∧
      exec (.lanes setMask clearMask) s
        = .next (((s.setMask mask).failEach indices .laneOff).answered (.lanes setMask clearMask) (.lanes mask)))) ∧
  ∀ (s : State) (gantry : BitVec 16) (quota margin hot cool faultCode : Byte),
    s.takes (.config gantry quota margin hot cool faultCode) →
    let hotTaken := min 110 (max 60 hot.toNat)
    let taken : Settings := {
      gantry := gantry
      quota := min 48 (max 1 quota.toNat)
      margin := min 100 margin.toNat
      hot := hotTaken
      cool := min (hotTaken - 5) (max 50 cool.toNat)
      faultCode := min 3 faultCode.toNat }
    exec (.config gantry quota margin hot cool faultCode) s
      = .next ((s.setSettings taken).answered (.config gantry quota margin hot cool faultCode) (.configured taken))

/-- R146, R90, R71: SERVICE on and SERVICE off. A SERVICE that was handed over before the part left SERVICE_OFF has no effect in
the state that it finds (the model's reading, log 31). -/
def Obligations.ServiceOnAndOff : Prop :=
  ∀ s : State,
    (s.takes .serviceOn →
      (s.service = .serviceOff →
        (s.test ≠ none → Refuses .serviceOn s .busy) ∧
        (s.test = none → s.clock.time = none → Refuses .serviceOn s .noTime) ∧
        (s.test = none → s.clock.time ≠ none →
          exec .serviceOn s = .next ((s.setService .serviceOn).answered .serviceOn (.service .serviceOn 0)))) ∧
      (s.service ≠ .serviceOff → exec .serviceOn s = .next (s.answered .serviceOn (.service s.service 0)))) ∧
    (s.takes .serviceOff →
      (s.service ≠ .serviceOn → exec .serviceOff s = .next (s.answered .serviceOff (.service s.service 0))) ∧
      (s.service = .serviceOn → ∃ indices : List Nat, indices.Pairwise (· < ·) ∧
        (∀ n, n ∈ indices ↔ ∃ c l, s.contextAt n = some c ∧ c.state = .live l) ∧
        exec .serviceOff s
          = .next ((((s.setService .serviceOff).failEach indices .serviceOff).cancelJobs fun j => j.work.isPrefetch).answered
              .serviceOff (.service .serviceOff indices.length))))

/-- R125, R149, R123, R124: SELFTEST begins a test when the engine is empty and idle, RESTART waits for its reply, and at the end
of a test each unit passes when E of the stored test block is the stored expected output and E⁻¹ of the expected output is the
test block, both as the unit gives them; the results set the healths and the service state, the units are FREE, SELFTEST_DONE is
posted and jobs are handed out. A unit passes when, and only when, no fault of it changes an output (the expected output is what
the cipher gives, and a fault is an operand: the model's, log 9). That a SELFTEST_END without a test has no effect is the
model's choice (log 3). -/
def Obligations.SelftestAndRestart : Prop :=
  ∀ s : State,
    (s.takes .selftest →
      (s.service ≠ .serviceOff → Refuses .selftest s .serviceState) ∧
      (s.service = .serviceOff →
        (s.suspended = true → Refuses .selftest s .thermal) ∧
        (s.suspended = false →
          (s.jobs ≠ [] ∨ s.u0.activity ≠ .free ∨ s.u1.activity ≠ .free → Refuses .selftest s .busy) ∧
          (s.jobs = [] → s.u0.activity = .free → s.u1.activity = .free →
            exec .selftest s = .next ((((s.setTest (some .request)).setU0 { s.u0 with activity := .testing }).setU1
              { s.u1 with activity := .testing }).answered .selftest .selftestBegun))))) ∧
    (s.takes .restart ∨ (s.power = .running ∧ s.service = .halted) →
      exec .restart s = .next ((s.setRestarting true).answered .restart .restarting)) ∧
    (s.power = .running → ∀ fault0 fault1 : UnitFault,
      let passes := fun f : UnitFault =>
        decide (encipher Config.testKey Config.testBlock ^^^ f.forward = Config.testOutput)
          && decide (decipher Config.testKey Config.testOutput ^^^ f.inverse = Config.testBlock)
      (∀ f, passes f = true ↔ f = ⟨0, 0⟩) ∧
      (s.test = none → exec (.selftestEnd fault0 fault1) s = .next s) ∧
      (∀ origin, s.test = some origin →
        exec (.selftestEnd fault0 fault1) s
          = .next ((((((s.setTest none).setU0
                { s.u0 with health := if passes fault0 = true then .good else .failed, activity := .free }).setU1
                { s.u1 with health := if passes fault1 = true then .good else .failed, activity := .free }).setService
                (if passes fault0 = false ∧ passes fault1 = false then .halted
                  else if origin = .startUp then .serviceOff else s.service)).post
              (.selftestDone origin (passes fault0) (passes fault1))).arbitrate)))

/-! ### Window end, prefetch expiry and the Thermal Monitor (01, 04, 10) -/

/-- R16, R70: WINDOW_END withdraws in one event every slot whose window has ended, and PREFETCH_EXPIRY cancels the prefetch job
that has waited 1000 ms without being started; while lane time is UNSET neither is due. That a WINDOW_END or a PREFETCH_EXPIRY
that is not due has no effect is the model's choice (log 3). -/
def Obligations.WindowEndAndPrefetchExpiry : Prop :=
  ∀ s : State, s.power = .running →
    (s.clock.time = none → exec .windowEnd s = .next s ∧ ∀ sequence, exec (.prefetchExpiry sequence) s = .next s) ∧
    (∀ now, s.clock.time = some now →
      ((∀ n k, heldAt s.slots n = some k → now / 1000 < k.notAfter.toNat) → exec .windowEnd s = .next s) ∧
      (∀ found : List Nat, found ≠ [] → found.Pairwise (· < ·) →
        (∀ n, n ∈ found ↔ ∃ k, heldAt s.slots n = some k ∧ k.notAfter.toNat ≤ now / 1000) →
        exec .windowEnd s = .next (s.withdraw found)) ∧
      ∀ sequence, exec (.prefetchExpiry sequence) s
        = .next (s.setJobs (s.jobs.filter fun j =>
            !(decide (j.sequence = sequence) && j.work.isPrefetch && !j.started && decide (j.time + 1000 ≤ now)))))

/-- R153 to R155: a reading is clamped and counted, decides the thermal state by the first case that applies, and acts on
the engine; a change of state is posted. -/
def Obligations.ReadingsDecideTheThermalState : Prop :=
  ∀ (s : State) (celsius : Int), s.power = .running →
    let reading := max (-40) (min 125 celsius)
    let hot := if (s.settings.hot : Int) < reading then (if s.thermal.hotCount < 255 then s.thermal.hotCount + 1
      else s.thermal.hotCount) else 0
    let limit := if 115 ≤ reading then (if s.thermal.limitCount < 255 then s.thermal.limitCount + 1
      else s.thermal.limitCount) else 0
    let faults := match s.settings.faultCode with
      | 0 => 1
      | 1 => 2
      | 2 => 4
      | _ => 6
    let read := fun after => s.setThermal ⟨some reading, hot, limit, after⟩
    (2 ≤ limit → s.thermal.state ≠ .suspended →
      exec (.thermalReading celsius) s
        = .next ((((read .suspended).setSuspended true).setU1 { s.u1 with placement := .parked }).post
            (.thermal s.thermal.state .suspended reading))) ∧
    (limit < 2 ∨ s.thermal.state = .suspended →
      (reading ≤ (s.settings.cool : Int) → s.thermal.state ≠ .normal →
        exec (.thermalReading celsius) s
          = .next (((((read .normal).setSuspended false).setU1 { s.u1 with placement := .inService }).arbitrate).post
              (.thermal s.thermal.state .normal reading))) ∧
      ((s.settings.cool : Int) < reading ∨ s.thermal.state = .normal →
        (faults ≤ hot → s.thermal.state = .normal →
          exec (.thermalReading celsius) s
            = .next (((read .throttled).setU1 { s.u1 with placement := .parked }).post
                (.thermal .normal .throttled reading))) ∧
        (hot < faults ∨ s.thermal.state ≠ .normal →
          exec (.thermalReading celsius) s = .next (read s.thermal.state))))

/-! ### The Cipher Engine (07, 08) -/

/-- R79, R119, R128, R129, R131: the operations of an OPEN job on a serving unit: the derivation is inserted and pinned and
the unit goes on; the reader proof moves the context to AWAIT_TAG and posts OPENED. R81, R119, R132: the operation of a VERIFY
job: a match of all 64 bits authenticates the tag, a difference fails the context. -/
def Obligations.OpenAndVerifyJobOperations : Prop :=
  (∀ (s : State) (name : UnitName) (masterKey : Option Key) (j : Job) (h : Handle) (issuer : Issuer) (serial : Serial)
    (nonce challenge : Half) (n : Nat) (c : Context),
    s.runs name masterKey j → j.work = .opening h issuer serial nonce challenge → s.resolveHandle h = some (n, c) →
    (∀ generation slot epoch, j.operations = [.derive .auth generation slot epoch, .readerProof] →
      (s.unit name).serves s.suspended = true →
      exec (.operationComplete name) s
        = .next (((s.insert c.issuer c.serial generation .auth slot epoch (some h) masterKey).updateContext n
            fun c => { c with reserved := c.reserved - 1 }).goesOn name none { j with operations := [.readerProof] })) ∧
    (j.operations = [.readerProof] →
      exec (.operationComplete name) s
        = .next (((((s.endJob j.sequence).updateContext n
              fun c => { c with reserved := c.reserved - 1, state := .live .awaitTag }).post
            (.opened h c.lane c.challenge
              (firstHalf (encipher (pinnedKey s.cache h .auth) (c.nonce ++ c.challenge))))).freeUnit name).arbitrate))) ∧
  ∀ (s : State) (name : UnitName) (masterKey : Option Key) (j : Job) (h : Handle) (proof : Half) (n : Nat) (c : Context),
    s.runs name masterKey j → j.work = .verifying h proof → j.operations = [.tagProof] → s.resolveHandle h = some (n, c) →
    let expected := lastHalf (encipher (pinnedKey s.cache h .auth) (c.challenge ++ c.nonce))
    (expected = proof →
      exec (.operationComplete name) s
        = .next ((((((s.endJob j.sequence).updateContext n
              fun c => { c with reserved := c.reserved - 1, state := .live .authenticated }).releasePin h .auth).post
            (.verified h c.lane)).freeUnit name).arbitrate)) ∧
    (expected ≠ proof →
      exec (.operationComplete name) s
        = .next ((((s.endJob j.sequence).failContext n .authMismatch true).freeUnit name).arbitrate))

/-- R83, R119, R129, R133, R134: the operations of a SEAL job on a serving unit: the derivation, the first seal block, whose
output stays with the job, and the second, whose first half is the seal. -/
def Obligations.SealJobOperations : Prop :=
  ∀ (s : State) (name : UnitName) (masterKey : Option Key) (j : Job) (h : Handle) (r : SealRecord) (first : Option Block)
    (n : Nat) (c : Context),
    s.runs name masterKey j → j.work = .sealing h r first → s.resolveHandle h = some (n, c) →
    let key := pinnedKey s.cache h .seal
    let s1 : Block := r.serial ++ r.issuer ++ r.authGeneration ++ r.sealGeneration ++ r.gantry ++ r.lane ++ r.vehicleClass
      ++ r.charge
    let s2 : Block := r.sequence ++ BitVec.ofNat 48 r.stamp ++ 0#64
    (∀ generation slot epoch, j.operations = [.derive .seal generation slot epoch, .sealFirst, .sealSecond] →
      (s.unit name).serves s.suspended = true →
      exec (.operationComplete name) s
        = .next (((s.insert c.issuer c.serial generation .seal slot epoch (some h) masterKey).updateContext n
            fun c => { c with reserved := c.reserved - 1 }).goesOn name none
              { j with operations := [.sealFirst, .sealSecond] })) ∧
    (j.operations = [.sealFirst, .sealSecond] → (s.unit name).serves s.suspended = true →
      exec (.operationComplete name) s
        = .next ((s.updateContext n fun c => { c with reserved := c.reserved - 1 }).goesOn name none
            { j with work := .sealing h r (some (encipher key s1)), operations := [.sealSecond] })) ∧
    (∀ c1, first = some c1 → j.operations = [.sealSecond] →
      let result := firstHalf (encipher key (c1 ^^^ s2))
      exec (.operationComplete name) s
        = .next ((((((s.endJob j.sequence).updateContext n
              fun c => { c with state := .sealed r.stamp result, reserved := 0 }).releasePin h .seal).post
            (.sealed h c.lane r.stamp c.sealGeneration result)).freeUnit name).arbitrate))

/-- R30 to R34, R135: the operations of a keyset job: unwraps and checks go on; the last one completes the commit, which
installs every record in one event or none. The installed records take the lowest EMPTY slots in image order. -/
def Obligations.KeysetJobOperations : Prop :=
  (∀ (s : State) (name : UnitName) (masterKey : Option Key) (j : Job) (l : Load) (keys : List Key) (results : List Bool),
    s.runs name masterKey j → j.work = .keyset l keys results →
    (∀ k op rest, j.operations = .unwrap k :: op :: rest → (s.unit name).serves s.suspended = true →
      ∀ transport, s.transport = some transport →
      exec (.operationComplete name) s
        = .next (s.goesOn name (masterKeyFor s.slots (some op)) { j with
            work := .keyset l (keys ++ [decipher transport.key (imageRecord l.buffer k).wrapped]) results
            operations := op :: rest })) ∧
    (∀ k op rest, j.operations = .check k :: op :: rest → (s.unit name).serves s.suspended = true →
      ∀ key, keys[k]? = some key →
      exec (.operationComplete name) s
        = .next (s.goesOn name (masterKeyFor s.slots (some op)) { j with
            work := .keyset l keys
              (results ++ [decide (checkBytes (encipher key 0) = (imageRecord l.buffer k).checkValue)])
            operations := op :: rest })) ∧
    (∀ k key, j.operations = [.check k] → keys[k]? = some key →
      let outcomes := results ++ [decide (checkBytes (encipher key 0) = (imageRecord l.buffer k).checkValue)]
      let ended := (s.endJob j.sequence).setStager .idle
      (∀ m, outcomes[m]? = some false → (∀ x, x < m → outcomes[x]? = some true) →
        exec (.operationComplete name) s
          = .next (((ended.post (.commitFailed l.imageId (BitVec.ofNat 8 m))).freeUnit name).arbitrate)) ∧
      (false ∉ outcomes → firstConflict s.slots [] l.records = none → (l.declared - 8) / 32 ≤ emptySlots s.slots →
        exec (.operationComplete name) s
          = .next (((((ended.setSlots (installEach s.slots (l.records.zip keys)).1).post
              (.committed l.imageId (installEach s.slots (l.records.zip keys)).2)).freeUnit name).arbitrate))))) ∧
  ∀ (slots : List Slot) (installs : List (ImageRecord × Key)), installs.length ≤ emptySlots slots →
    let indices := ((List.range slots.length).filter fun n => (heldAt slots n).isNone).take installs.length
    (installEach slots installs).2 = indices ∧
    (∀ n, n ∉ indices → (installEach slots installs).1[n]? = slots[n]?) ∧
    ∀ (m n : Nat) (r : ImageRecord) (key : Key) (x : Slot), installs[m]? = some (r, key) → indices[m]? = some n →
      slots[n]? = some x →
      (installEach slots installs).1[n]?
        = some ⟨some ⟨r.stateOf, r.issuer, r.generation, r.roleOf, r.notBefore, r.notAfter, key, r.checkValue⟩, x.epoch + 1, 0⟩

/-- R69, R119 to R122: every derivation of a prefetch job is inserted unpinned: after the first of two a serving unit goes on
with the second, whose master key it reads then, and after the last the job ends. The operation of a cancelled job is discarded;
an operation that is not its job's last, on a unit that has stopped serving, returns the job to waiting with every field but the
operation and its result. That OPERATION_COMPLETE has no effect on a FREE or a TESTING unit is the model's choice (log 3). -/
def Obligations.PrefetchedDiscardedAndReturned : Prop :=
  ∀ (s : State) (name : UnitName) (masterKey : Option Key),
    (∀ sequence, s.power = .running → (s.unit name).activity = .running sequence masterKey →
      (∀ j ∈ s.jobs, j.sequence ≠ sequence) →
      exec (.operationComplete name) s = .next ((s.setUnit name { s.unit name with activity := .free }).arbitrate)) ∧
    (s.power = .running → (s.unit name).activity = .free ∨ (s.unit name).activity = .testing →
      exec (.operationComplete name) s = .next s) ∧
    (∀ j, s.runs name masterKey j →
      (∀ issuer serial role generation slot epoch, j.work = .prefetch issuer serial →
        j.operations = [.derive role generation slot epoch] →
        exec (.operationComplete name) s
          = .next (((((s.endJob j.sequence).insert issuer serial generation role slot epoch none masterKey).freeUnit
              name).arbitrate))) ∧
      (∀ issuer serial role generation slot epoch next, j.work = .prefetch issuer serial →
        j.operations = [.derive role generation slot epoch, next] → (s.unit name).serves s.suspended = true →
        exec (.operationComplete name) s
          = .next ((s.insert issuer serial generation role slot epoch none masterKey).goesOn name
              (masterKeyFor s.slots (some next)) { j with operations := [next] })) ∧
      (∀ op next rest, j.suits → j.operations = op :: next :: rest → (s.unit name).serves s.suspended = false →
        let handed := s.handOver j.work op masterKey
        exec (.operationComplete name) s
          = .next ((((handed.setJobs (updateJob s.jobs j.sequence fun _ =>
              { j with work := s.workAfter j.work op, operations := next :: rest, running := false })).freeUnit
              name).arbitrate))))

/-- R115, R116: the arbiter hands out the waiting LANE or KEYSET job of the earliest deadline, ties by the lower sequence,
and a PREFETCH job only when no other waits; U0 is served first, and afterwards no serving unit is FREE while a job waits. -/
def Obligations.ArbiterOrder : Prop :=
  (∀ (jobs : List Job) (j : Job), nextJob jobs = some j → j ∈ jobs ∧ j.running = false ∧
    ∀ k ∈ jobs, k.running = false →
      if j.work.isPrefetch = true then k.work.isPrefetch = true ∧ j.sequence ≤ k.sequence
      else k.work.isPrefetch = false → j.time < k.time ∨ (j.time = k.time ∧ j.sequence ≤ k.sequence)) ∧
  (∀ (s : State) (j : Job), s.u0.serves s.suspended = true → s.u0.activity = .free → nextJob s.jobs = some j →
    s.arbitrate.u0.activity = .running j.sequence (masterKeyFor s.slots j.operations.head?) ∧
    ∃ k ∈ s.arbitrate.jobs, k.sequence = j.sequence ∧ k.running = true ∧ k.started = true ∧ k.work = j.work) ∧
  ∀ (s : State) (j : Job), j ∈ s.arbitrate.jobs → j.running = false →
    ∀ name, (s.arbitrate.unit name).serves s.arbitrate.suspended = true → (s.arbitrate.unit name).activity ≠ .free

/-! ### Resets and zeroize (09) -/

/-- R148 to R151, R18 to R20: supply, resets, zeroize and provisioning. A reset keeps the protected store; zeroize erases it
and leaves the lane mask, the configuration, lane time and the Thermal Monitor. The state while in reset, and what
PROVISIONING leaves alone, are the model's (logs 12 and 14). -/
def Obligations.ResetsAndZeroize : Prop :=
  ∀ s : State,
    exec .supplyLoss s = .next (s.clearVolatile.setPower .noSupply) ∧
    (s.power = .noSupply → exec .powerOn s = .next (s.clearVolatile.setPower .inReset)) ∧
    (s.power ≠ .noSupply → exec .resetNLow s = .next (s.clearVolatile.setPower .inReset)) ∧
    (∀ rate1 rate0, s.power = .inReset → ∃ t, exec (.resetEnd rate1 rate0) s = .next t ∧
      t.power = .running ∧ t.straps = (rate1, rate0) ∧ t.link = Link.quiet ∧ t.mask = 0 ∧
      t.settings = ⟨0, 12, 8, 95, 85, 1⟩ ∧ t.clock.time = none ∧ t.clock.debt = 0 ∧ t.stager = .idle ∧ t.cache = [] ∧
      t.places = List.replicate 48 ⟨1023, none⟩ ∧ t.jobs = [] ∧ t.nextSequence = 0 ∧ t.suspended = false ∧
      t.thermal = ⟨none, 0, 0, .normal⟩ ∧ t.queue = ⟨[], false⟩ ∧
      t.slots = (s.slots.map fun x => { x with bound := 0 }) ∧ t.transport = s.transport ∧
      t.zeroizedMark = s.zeroizedMark ∧ t.rollovers = s.rollovers ∧
      (s.zeroizedMark = true → t.service = .zeroized ∧ t.test = none ∧ t.u0 = ⟨.good, .inService, .free⟩
        ∧ t.u1 = ⟨.good, .inService, .free⟩) ∧
      (s.zeroizedMark = false → t.service = .starting ∧ t.test = some .startUp ∧ t.u0 = ⟨.good, .inService, .testing⟩
        ∧ t.u1 = ⟨.good, .inService, .testing⟩)) ∧
    (s.power ≠ .noSupply → exec .zeroize s = .next { s with
      service := .zeroized, slots := List.replicate 64 ⟨none, 0, 0⟩, transport := none, zeroizedMark := true
      stager := .idle, rollovers := [], cache := [], places := List.replicate 48 ⟨1023, none⟩, jobs := []
      u0 := { s.u0 with activity := .free }, u1 := { s.u1 with activity := .free }, test := none, queue := ⟨[], false⟩ }) ∧
    ∀ key, exec (.provisioning key) s
      = .next ((s.setTransport (some ⟨key, checkBytes (encipher key 0)⟩)).setZeroizedMark false)

/-- R145, R158, R167: the output pins and the line rate. ATTN is high out of reset while the Completion Queue holds a record,
READY in SERVICE_ON. A post to the running part leaves ATTN high, a COLLECT leaves it high exactly when records remain, SERVICE
on raises READY and SERVICE off lowers it, and supply loss, reset and zeroize lower both. The straps set the line rate at the
end of a reset, and no other command changes it. -/
def Obligations.PinsAndLineRate : Prop :=
  (∀ s : State, (s.attn = true ↔ s.power = .running ∧ s.queue.records ≠ []) ∧
    (s.ready = true ↔ s.power = .running ∧ s.service = .serviceOn)) ∧
  (∀ (s : State) (r : CompletionRecord), s.power = .running → s.service ≠ .zeroized → (s.post r).attn = true) ∧
  (∀ (s t : State) (count : Byte), s.takes (.collect count) → exec (.collect count) s = .next t →
    (t.attn = true ↔ max 1 (min 7 count.toNat) < s.queue.records.length)) ∧
  (∀ s t : State, s.takes .serviceOn → s.service = .serviceOff → s.test = none → s.clock.time ≠ none →
    exec .serviceOn s = .next t → s.ready = false ∧ t.ready = true) ∧
  (∀ s t : State, s.takes .serviceOff → exec .serviceOff s = .next t → t.ready = false) ∧
  (∀ (s t : State) (i : Instr), i = .supplyLoss ∨ i = .resetNLow ∨ i = .zeroize → exec i s = .next t →
    t.attn = false ∧ t.ready = false) ∧
  (∀ s t : State, s.power = .inReset →
    (exec (.resetEnd false false) s = .next t → t.baud = 460800) ∧
    (exec (.resetEnd false true) s = .next t → t.baud = 921600) ∧
    (exec (.resetEnd true false) s = .next t → t.baud = 1843200) ∧
    (exec (.resetEnd true true) s = .next t → t.baud = 3686400)) ∧
  ∀ (i : Instr) (s t : State), (∀ rate1 rate0, i ≠ .resetEnd rate1 rate0) → exec i s = .next t →
    t.straps = s.straps ∧ t.baud = s.baud

/-! ### Invariants -/

/-- At State.reset every law below holds. -/
def Obligations.ResetIsLawful : Prop :=
  let s := State.reset
  s.directoryLawful ∧ s.workLawful ∧ s.tagsUnique ∧ s.reservedLawful ∧ s.boundsLawful ∧ s.cacheLawful ∧ s.tablesSized ∧
    s.queueBounded ∧ s.cacheBounded ∧ s.rolloversBounded ∧ s.linkBounded ∧ s.jobsLawful ∧ s.clock.lawful ∧
    s.stager.lawful ∧ s.settings.lawful ∧ s.thermal.lawful ∧ s.engineAgrees ∧ s.serviceTimed

/-- The laws of the Directory and the Scheduler: every step keeps the uniqueness of triples (R1), at most one ACTIVE SEAL slot
for an issuer (R2), each record's slots in the states of its phase (R39), and the records in ascending issuer code. -/
def Obligations.DirectoryLawsAreKept : Prop :=
  ∀ s t : State, s.directoryLawful → step s = .next t → t.directoryLawful

/-- The laws of the Work Queue and of the Transaction Table: every step keeps that each LANE job serves a live context in
the state of its kind, that no context has two jobs (R115), that handles name their contexts (R74), and that no two contexts
of one tag are both outside FAILED (R77). -/
def Obligations.WorkQueueLawsAreKept : Prop :=
  ∀ s t : State, s.workLawful → s.tagsUnique → step s = .next t → t.workLawful ∧ t.tagsUnique

/-- Every step keeps that each bound count is the number of untainted bindings of contexts to the slot's present install
(R1, R8). -/
def Obligations.BoundCountsCountBindings : Prop :=
  ∀ s t : State, s.boundsLawful → s.workLawful → step s = .next t → t.boundsLawful

/-- The laws of the cache: every step keeps one live entry for a quadruple, live entries only of present installs (R57), doomed
entries pinned (R62), and pins only of live contexts, AUTH pins only before AUTHENTICATED (R63). -/
def Obligations.CacheLawsAreKept : Prop :=
  ∀ s t : State, s.cacheLawful → s.workLawful → step s = .next t → t.cacheLawful

/-- The capacities: every step keeps 64 slots and 48 indices, at most 64 records, 256 entries, 8 rollover records, 4 request
entries and 8 overrun notes, 15 prefetch jobs, and a keyset job only while COMMITTING; and at most 64 jobs on the Work Queue,
where the laws of LANE jobs and tags hold (R115). -/
def Obligations.CapacitiesAreKept : Prop :=
  ∀ s t : State, s.tablesSized ∧ s.queueBounded ∧ s.cacheBounded ∧ s.rolloversBounded ∧ s.linkBounded ∧ s.jobsLawful →
    step s = .next t →
    (t.tablesSized ∧ t.queueBounded ∧ t.cacheBounded ∧ t.rolloversBounded ∧ t.linkBounded ∧ t.jobsLawful) ∧
    (s.workLawful → s.tagsUnique → s.jobs.length ≤ 64 ∧ t.jobs.length ≤ 64)

/-- The ranges: every step keeps the slew debt within 2000 ms and lane time within 48 bits, the load within its declared
length, the configuration and the thermal counts in their ranges, the units placed as the thermal state says, lane time set
in SERVICE_ON, and reserved operations 0 outside the live states; and lane time never decreases while set (R137). -/
def Obligations.RangesAreKept : Prop :=
  ∀ s t : State, s.clock.lawful ∧ s.stager.lawful ∧ s.settings.lawful ∧ s.thermal.lawful ∧ s.engineAgrees
      ∧ s.serviceTimed ∧ s.reservedLawful →
    step s = .next t →
    (t.clock.lawful ∧ t.stager.lawful ∧ t.settings.lawful ∧ t.thermal.lawful ∧ t.engineAgrees ∧ t.serviceTimed
      ∧ t.reservedLawful) ∧
    ∀ a b, s.clock.time = some a → t.clock.time = some b → a ≤ b

/-- R75: the law of the table on sealing. A context is SEALED after a command only if it was SEALED before, or was SEALING and the
last operation of its own SEAL job completed on a unit that ran it; it is SEALING only if it was, or was AUTHENTICATED and a
SEAL was taken; it is AUTHENTICATED only if it was, or was VERIFYING and its own VERIFY job's tag proof matched. -/
def Obligations.SealedOnlyAfterAMatchingProof : Prop :=
  ∀ (s t : State) (i : Instr) (n : Nat) (d : Context), s.workLawful → exec i s = .next t → t.contextAt n = some d →
    (∀ stamp x, d.state = .sealed stamp x → ∃ c, s.contextAt n = some c ∧ c.handle = d.handle ∧
      (c.state = d.state ∨ (c.state = .live .sealing ∧ ∃ name masterKey j r first, i = .operationComplete name ∧
        s.runs name masterKey j ∧ j.work = .sealing c.handle r first ∧ j.operations = [.sealSecond] ∧ stamp = r.stamp ∧
        x = firstHalf (encipher (pinnedKey s.cache c.handle .seal) (first.getD 0 ^^^ sealBlock2 r))))) ∧
    (d.state = .live .sealing → ∃ c, s.contextAt n = some c ∧ c.handle = d.handle ∧
      (c.state = d.state ∨ (c.state = .live .authenticated ∧ ∃ v m q, i = .sealTag d.handle v m q))) ∧
    (d.state = .live .authenticated → ∃ c, s.contextAt n = some c ∧ c.handle = d.handle ∧
      (c.state = d.state ∨ (c.state = .live .verifying ∧ ∃ name masterKey j proof, i = .operationComplete name ∧
        s.runs name masterKey j ∧ j.work = .verifying c.handle proof ∧ j.operations = [.tagProof] ∧
        lastHalf (encipher (pinnedKey s.cache c.handle .auth) (c.challenge ++ c.nonce)) = proof)))

/-- R17, R18, R127: no command but the completion of a block operation depends on key material: two states that differ only
in keys, and in the keys and cipher blocks in progress, stay so, with equal answers, replies and completion records. -/
def Obligations.KeysStayInside : Prop :=
  ∀ (i : Instr) (s u s' u' : State), (∀ name, i ≠ .operationComplete name) → s.veiled = u.veiled → exec i s = .next s' →
    exec i u = .next u' → s'.veiled = u'.veiled

/-- R3, R5, R18 to R20, R38: which commands may change what the protected store holds. That PROVISIONING leaves the slots and the
rollover records alone is presumed (log 14). -/
def Obligations.ProtectedStoreWriters : Prop :=
  ∀ (i : Instr) (s t : State), exec i s = .next t →
    (i.writesSlots = false → t.slots.map (fun x => (x.held, x.epoch)) = s.slots.map fun x => (x.held, x.epoch)) ∧
    (i.writesRollovers = false → t.rollovers = s.rollovers) ∧
    (i.writesTransport = false → t.transport = s.transport ∧ t.zeroizedMark = s.zeroizedMark)
end

