-- ==== Sys2Proof/Laws/State.lean ====
section
/-! SUPPORT. One lemma for each field under each setter of State. -/

namespace Sys2Proof.Machine.State

variable (s : State)

@[simp] theorem setPower_power (v : Power) : (s.setPower v).power = v := rfl
@[simp] theorem setPower_straps (v : Power) : (s.setPower v).straps = s.straps := rfl
@[simp] theorem setPower_link (v : Power) : (s.setPower v).link = s.link := rfl
@[simp] theorem setPower_service (v : Power) : (s.setPower v).service = s.service := rfl
@[simp] theorem setPower_mask (v : Power) : (s.setPower v).mask = s.mask := rfl
@[simp] theorem setPower_settings (v : Power) : (s.setPower v).settings = s.settings := rfl
@[simp] theorem setPower_clock (v : Power) : (s.setPower v).clock = s.clock := rfl
@[simp] theorem setPower_slots (v : Power) : (s.setPower v).slots = s.slots := rfl
@[simp] theorem setPower_transport (v : Power) : (s.setPower v).transport = s.transport := rfl
@[simp] theorem setPower_zeroizedMark (v : Power) : (s.setPower v).zeroizedMark = s.zeroizedMark := rfl
@[simp] theorem setPower_stager (v : Power) : (s.setPower v).stager = s.stager := rfl
@[simp] theorem setPower_rollovers (v : Power) : (s.setPower v).rollovers = s.rollovers := rfl
@[simp] theorem setPower_cache (v : Power) : (s.setPower v).cache = s.cache := rfl
@[simp] theorem setPower_places (v : Power) : (s.setPower v).places = s.places := rfl
@[simp] theorem setPower_u0 (v : Power) : (s.setPower v).u0 = s.u0 := rfl
@[simp] theorem setPower_u1 (v : Power) : (s.setPower v).u1 = s.u1 := rfl
@[simp] theorem setPower_suspended (v : Power) : (s.setPower v).suspended = s.suspended := rfl
@[simp] theorem setPower_test (v : Power) : (s.setPower v).test = s.test := rfl
@[simp] theorem setPower_jobs (v : Power) : (s.setPower v).jobs = s.jobs := rfl
@[simp] theorem setPower_nextSequence (v : Power) : (s.setPower v).nextSequence = s.nextSequence := rfl
@[simp] theorem setPower_thermal (v : Power) : (s.setPower v).thermal = s.thermal := rfl
@[simp] theorem setPower_queue (v : Power) : (s.setPower v).queue = s.queue := rfl
@[simp] theorem setPower_restarting (v : Power) : (s.setPower v).restarting = s.restarting := rfl
@[simp] theorem setPower_draws (v : Power) : (s.setPower v).draws = s.draws := rfl
@[simp] theorem setPower_answer (v : Power) : (s.setPower v).answer = s.answer := rfl
@[simp] theorem setPower_pending (v : Power) : (s.setPower v).pending = s.pending := rfl

@[simp] theorem setStraps_power (v : Bool × Bool) : (s.setStraps v).power = s.power := rfl
@[simp] theorem setStraps_straps (v : Bool × Bool) : (s.setStraps v).straps = v := rfl
@[simp] theorem setStraps_link (v : Bool × Bool) : (s.setStraps v).link = s.link := rfl
@[simp] theorem setStraps_service (v : Bool × Bool) : (s.setStraps v).service = s.service := rfl
@[simp] theorem setStraps_mask (v : Bool × Bool) : (s.setStraps v).mask = s.mask := rfl
@[simp] theorem setStraps_settings (v : Bool × Bool) : (s.setStraps v).settings = s.settings := rfl
@[simp] theorem setStraps_clock (v : Bool × Bool) : (s.setStraps v).clock = s.clock := rfl
@[simp] theorem setStraps_slots (v : Bool × Bool) : (s.setStraps v).slots = s.slots := rfl
@[simp] theorem setStraps_transport (v : Bool × Bool) : (s.setStraps v).transport = s.transport := rfl
@[simp] theorem setStraps_zeroizedMark (v : Bool × Bool) : (s.setStraps v).zeroizedMark = s.zeroizedMark := rfl
@[simp] theorem setStraps_stager (v : Bool × Bool) : (s.setStraps v).stager = s.stager := rfl
@[simp] theorem setStraps_rollovers (v : Bool × Bool) : (s.setStraps v).rollovers = s.rollovers := rfl
@[simp] theorem setStraps_cache (v : Bool × Bool) : (s.setStraps v).cache = s.cache := rfl
@[simp] theorem setStraps_places (v : Bool × Bool) : (s.setStraps v).places = s.places := rfl
@[simp] theorem setStraps_u0 (v : Bool × Bool) : (s.setStraps v).u0 = s.u0 := rfl
@[simp] theorem setStraps_u1 (v : Bool × Bool) : (s.setStraps v).u1 = s.u1 := rfl
@[simp] theorem setStraps_suspended (v : Bool × Bool) : (s.setStraps v).suspended = s.suspended := rfl
@[simp] theorem setStraps_test (v : Bool × Bool) : (s.setStraps v).test = s.test := rfl
@[simp] theorem setStraps_jobs (v : Bool × Bool) : (s.setStraps v).jobs = s.jobs := rfl
@[simp] theorem setStraps_nextSequence (v : Bool × Bool) : (s.setStraps v).nextSequence = s.nextSequence := rfl
@[simp] theorem setStraps_thermal (v : Bool × Bool) : (s.setStraps v).thermal = s.thermal := rfl
@[simp] theorem setStraps_queue (v : Bool × Bool) : (s.setStraps v).queue = s.queue := rfl
@[simp] theorem setStraps_restarting (v : Bool × Bool) : (s.setStraps v).restarting = s.restarting := rfl
@[simp] theorem setStraps_draws (v : Bool × Bool) : (s.setStraps v).draws = s.draws := rfl
@[simp] theorem setStraps_answer (v : Bool × Bool) : (s.setStraps v).answer = s.answer := rfl
@[simp] theorem setStraps_pending (v : Bool × Bool) : (s.setStraps v).pending = s.pending := rfl

@[simp] theorem setLink_power (v : Link) : (s.setLink v).power = s.power := rfl
@[simp] theorem setLink_straps (v : Link) : (s.setLink v).straps = s.straps := rfl
@[simp] theorem setLink_link (v : Link) : (s.setLink v).link = v := rfl
@[simp] theorem setLink_service (v : Link) : (s.setLink v).service = s.service := rfl
@[simp] theorem setLink_mask (v : Link) : (s.setLink v).mask = s.mask := rfl
@[simp] theorem setLink_settings (v : Link) : (s.setLink v).settings = s.settings := rfl
@[simp] theorem setLink_clock (v : Link) : (s.setLink v).clock = s.clock := rfl
@[simp] theorem setLink_slots (v : Link) : (s.setLink v).slots = s.slots := rfl
@[simp] theorem setLink_transport (v : Link) : (s.setLink v).transport = s.transport := rfl
@[simp] theorem setLink_zeroizedMark (v : Link) : (s.setLink v).zeroizedMark = s.zeroizedMark := rfl
@[simp] theorem setLink_stager (v : Link) : (s.setLink v).stager = s.stager := rfl
@[simp] theorem setLink_rollovers (v : Link) : (s.setLink v).rollovers = s.rollovers := rfl
@[simp] theorem setLink_cache (v : Link) : (s.setLink v).cache = s.cache := rfl
@[simp] theorem setLink_places (v : Link) : (s.setLink v).places = s.places := rfl
@[simp] theorem setLink_u0 (v : Link) : (s.setLink v).u0 = s.u0 := rfl
@[simp] theorem setLink_u1 (v : Link) : (s.setLink v).u1 = s.u1 := rfl
@[simp] theorem setLink_suspended (v : Link) : (s.setLink v).suspended = s.suspended := rfl
@[simp] theorem setLink_test (v : Link) : (s.setLink v).test = s.test := rfl
@[simp] theorem setLink_jobs (v : Link) : (s.setLink v).jobs = s.jobs := rfl
@[simp] theorem setLink_nextSequence (v : Link) : (s.setLink v).nextSequence = s.nextSequence := rfl
@[simp] theorem setLink_thermal (v : Link) : (s.setLink v).thermal = s.thermal := rfl
@[simp] theorem setLink_queue (v : Link) : (s.setLink v).queue = s.queue := rfl
@[simp] theorem setLink_restarting (v : Link) : (s.setLink v).restarting = s.restarting := rfl
@[simp] theorem setLink_draws (v : Link) : (s.setLink v).draws = s.draws := rfl
@[simp] theorem setLink_answer (v : Link) : (s.setLink v).answer = s.answer := rfl
@[simp] theorem setLink_pending (v : Link) : (s.setLink v).pending = s.pending := rfl

@[simp] theorem setService_power (v : ServiceState) : (s.setService v).power = s.power := rfl
@[simp] theorem setService_straps (v : ServiceState) : (s.setService v).straps = s.straps := rfl
@[simp] theorem setService_link (v : ServiceState) : (s.setService v).link = s.link := rfl
@[simp] theorem setService_service (v : ServiceState) : (s.setService v).service = v := rfl
@[simp] theorem setService_mask (v : ServiceState) : (s.setService v).mask = s.mask := rfl
@[simp] theorem setService_settings (v : ServiceState) : (s.setService v).settings = s.settings := rfl
@[simp] theorem setService_clock (v : ServiceState) : (s.setService v).clock = s.clock := rfl
@[simp] theorem setService_slots (v : ServiceState) : (s.setService v).slots = s.slots := rfl
@[simp] theorem setService_transport (v : ServiceState) : (s.setService v).transport = s.transport := rfl
@[simp] theorem setService_zeroizedMark (v : ServiceState) : (s.setService v).zeroizedMark = s.zeroizedMark := rfl
@[simp] theorem setService_stager (v : ServiceState) : (s.setService v).stager = s.stager := rfl
@[simp] theorem setService_rollovers (v : ServiceState) : (s.setService v).rollovers = s.rollovers := rfl
@[simp] theorem setService_cache (v : ServiceState) : (s.setService v).cache = s.cache := rfl
@[simp] theorem setService_places (v : ServiceState) : (s.setService v).places = s.places := rfl
@[simp] theorem setService_u0 (v : ServiceState) : (s.setService v).u0 = s.u0 := rfl
@[simp] theorem setService_u1 (v : ServiceState) : (s.setService v).u1 = s.u1 := rfl
@[simp] theorem setService_suspended (v : ServiceState) : (s.setService v).suspended = s.suspended := rfl
@[simp] theorem setService_test (v : ServiceState) : (s.setService v).test = s.test := rfl
@[simp] theorem setService_jobs (v : ServiceState) : (s.setService v).jobs = s.jobs := rfl
@[simp] theorem setService_nextSequence (v : ServiceState) : (s.setService v).nextSequence = s.nextSequence := rfl
@[simp] theorem setService_thermal (v : ServiceState) : (s.setService v).thermal = s.thermal := rfl
@[simp] theorem setService_queue (v : ServiceState) : (s.setService v).queue = s.queue := rfl
@[simp] theorem setService_restarting (v : ServiceState) : (s.setService v).restarting = s.restarting := rfl
@[simp] theorem setService_draws (v : ServiceState) : (s.setService v).draws = s.draws := rfl
@[simp] theorem setService_answer (v : ServiceState) : (s.setService v).answer = s.answer := rfl
@[simp] theorem setService_pending (v : ServiceState) : (s.setService v).pending = s.pending := rfl

@[simp] theorem setMask_power (v : Byte) : (s.setMask v).power = s.power := rfl
@[simp] theorem setMask_straps (v : Byte) : (s.setMask v).straps = s.straps := rfl
@[simp] theorem setMask_link (v : Byte) : (s.setMask v).link = s.link := rfl
@[simp] theorem setMask_service (v : Byte) : (s.setMask v).service = s.service := rfl
@[simp] theorem setMask_mask (v : Byte) : (s.setMask v).mask = v := rfl
@[simp] theorem setMask_settings (v : Byte) : (s.setMask v).settings = s.settings := rfl
@[simp] theorem setMask_clock (v : Byte) : (s.setMask v).clock = s.clock := rfl
@[simp] theorem setMask_slots (v : Byte) : (s.setMask v).slots = s.slots := rfl
@[simp] theorem setMask_transport (v : Byte) : (s.setMask v).transport = s.transport := rfl
@[simp] theorem setMask_zeroizedMark (v : Byte) : (s.setMask v).zeroizedMark = s.zeroizedMark := rfl
@[simp] theorem setMask_stager (v : Byte) : (s.setMask v).stager = s.stager := rfl
@[simp] theorem setMask_rollovers (v : Byte) : (s.setMask v).rollovers = s.rollovers := rfl
@[simp] theorem setMask_cache (v : Byte) : (s.setMask v).cache = s.cache := rfl
@[simp] theorem setMask_places (v : Byte) : (s.setMask v).places = s.places := rfl
@[simp] theorem setMask_u0 (v : Byte) : (s.setMask v).u0 = s.u0 := rfl
@[simp] theorem setMask_u1 (v : Byte) : (s.setMask v).u1 = s.u1 := rfl
@[simp] theorem setMask_suspended (v : Byte) : (s.setMask v).suspended = s.suspended := rfl
@[simp] theorem setMask_test (v : Byte) : (s.setMask v).test = s.test := rfl
@[simp] theorem setMask_jobs (v : Byte) : (s.setMask v).jobs = s.jobs := rfl
@[simp] theorem setMask_nextSequence (v : Byte) : (s.setMask v).nextSequence = s.nextSequence := rfl
@[simp] theorem setMask_thermal (v : Byte) : (s.setMask v).thermal = s.thermal := rfl
@[simp] theorem setMask_queue (v : Byte) : (s.setMask v).queue = s.queue := rfl
@[simp] theorem setMask_restarting (v : Byte) : (s.setMask v).restarting = s.restarting := rfl
@[simp] theorem setMask_draws (v : Byte) : (s.setMask v).draws = s.draws := rfl
@[simp] theorem setMask_answer (v : Byte) : (s.setMask v).answer = s.answer := rfl
@[simp] theorem setMask_pending (v : Byte) : (s.setMask v).pending = s.pending := rfl

@[simp] theorem setSettings_power (v : Settings) : (s.setSettings v).power = s.power := rfl
@[simp] theorem setSettings_straps (v : Settings) : (s.setSettings v).straps = s.straps := rfl
@[simp] theorem setSettings_link (v : Settings) : (s.setSettings v).link = s.link := rfl
@[simp] theorem setSettings_service (v : Settings) : (s.setSettings v).service = s.service := rfl
@[simp] theorem setSettings_mask (v : Settings) : (s.setSettings v).mask = s.mask := rfl
@[simp] theorem setSettings_settings (v : Settings) : (s.setSettings v).settings = v := rfl
@[simp] theorem setSettings_clock (v : Settings) : (s.setSettings v).clock = s.clock := rfl
@[simp] theorem setSettings_slots (v : Settings) : (s.setSettings v).slots = s.slots := rfl
@[simp] theorem setSettings_transport (v : Settings) : (s.setSettings v).transport = s.transport := rfl
@[simp] theorem setSettings_zeroizedMark (v : Settings) : (s.setSettings v).zeroizedMark = s.zeroizedMark := rfl
@[simp] theorem setSettings_stager (v : Settings) : (s.setSettings v).stager = s.stager := rfl
@[simp] theorem setSettings_rollovers (v : Settings) : (s.setSettings v).rollovers = s.rollovers := rfl
@[simp] theorem setSettings_cache (v : Settings) : (s.setSettings v).cache = s.cache := rfl
@[simp] theorem setSettings_places (v : Settings) : (s.setSettings v).places = s.places := rfl
@[simp] theorem setSettings_u0 (v : Settings) : (s.setSettings v).u0 = s.u0 := rfl
@[simp] theorem setSettings_u1 (v : Settings) : (s.setSettings v).u1 = s.u1 := rfl
@[simp] theorem setSettings_suspended (v : Settings) : (s.setSettings v).suspended = s.suspended := rfl
@[simp] theorem setSettings_test (v : Settings) : (s.setSettings v).test = s.test := rfl
@[simp] theorem setSettings_jobs (v : Settings) : (s.setSettings v).jobs = s.jobs := rfl
@[simp] theorem setSettings_nextSequence (v : Settings) : (s.setSettings v).nextSequence = s.nextSequence := rfl
@[simp] theorem setSettings_thermal (v : Settings) : (s.setSettings v).thermal = s.thermal := rfl
@[simp] theorem setSettings_queue (v : Settings) : (s.setSettings v).queue = s.queue := rfl
@[simp] theorem setSettings_restarting (v : Settings) : (s.setSettings v).restarting = s.restarting := rfl
@[simp] theorem setSettings_draws (v : Settings) : (s.setSettings v).draws = s.draws := rfl
@[simp] theorem setSettings_answer (v : Settings) : (s.setSettings v).answer = s.answer := rfl
@[simp] theorem setSettings_pending (v : Settings) : (s.setSettings v).pending = s.pending := rfl

@[simp] theorem setClock_power (v : LaneClock) : (s.setClock v).power = s.power := rfl
@[simp] theorem setClock_straps (v : LaneClock) : (s.setClock v).straps = s.straps := rfl
@[simp] theorem setClock_link (v : LaneClock) : (s.setClock v).link = s.link := rfl
@[simp] theorem setClock_service (v : LaneClock) : (s.setClock v).service = s.service := rfl
@[simp] theorem setClock_mask (v : LaneClock) : (s.setClock v).mask = s.mask := rfl
@[simp] theorem setClock_settings (v : LaneClock) : (s.setClock v).settings = s.settings := rfl
@[simp] theorem setClock_clock (v : LaneClock) : (s.setClock v).clock = v := rfl
@[simp] theorem setClock_slots (v : LaneClock) : (s.setClock v).slots = s.slots := rfl
@[simp] theorem setClock_transport (v : LaneClock) : (s.setClock v).transport = s.transport := rfl
@[simp] theorem setClock_zeroizedMark (v : LaneClock) : (s.setClock v).zeroizedMark = s.zeroizedMark := rfl
@[simp] theorem setClock_stager (v : LaneClock) : (s.setClock v).stager = s.stager := rfl
@[simp] theorem setClock_rollovers (v : LaneClock) : (s.setClock v).rollovers = s.rollovers := rfl
@[simp] theorem setClock_cache (v : LaneClock) : (s.setClock v).cache = s.cache := rfl
@[simp] theorem setClock_places (v : LaneClock) : (s.setClock v).places = s.places := rfl
@[simp] theorem setClock_u0 (v : LaneClock) : (s.setClock v).u0 = s.u0 := rfl
@[simp] theorem setClock_u1 (v : LaneClock) : (s.setClock v).u1 = s.u1 := rfl
@[simp] theorem setClock_suspended (v : LaneClock) : (s.setClock v).suspended = s.suspended := rfl
@[simp] theorem setClock_test (v : LaneClock) : (s.setClock v).test = s.test := rfl
@[simp] theorem setClock_jobs (v : LaneClock) : (s.setClock v).jobs = s.jobs := rfl
@[simp] theorem setClock_nextSequence (v : LaneClock) : (s.setClock v).nextSequence = s.nextSequence := rfl
@[simp] theorem setClock_thermal (v : LaneClock) : (s.setClock v).thermal = s.thermal := rfl
@[simp] theorem setClock_queue (v : LaneClock) : (s.setClock v).queue = s.queue := rfl
@[simp] theorem setClock_restarting (v : LaneClock) : (s.setClock v).restarting = s.restarting := rfl
@[simp] theorem setClock_draws (v : LaneClock) : (s.setClock v).draws = s.draws := rfl
@[simp] theorem setClock_answer (v : LaneClock) : (s.setClock v).answer = s.answer := rfl
@[simp] theorem setClock_pending (v : LaneClock) : (s.setClock v).pending = s.pending := rfl

@[simp] theorem setSlots_power (v : List Slot) : (s.setSlots v).power = s.power := rfl
@[simp] theorem setSlots_straps (v : List Slot) : (s.setSlots v).straps = s.straps := rfl
@[simp] theorem setSlots_link (v : List Slot) : (s.setSlots v).link = s.link := rfl
@[simp] theorem setSlots_service (v : List Slot) : (s.setSlots v).service = s.service := rfl
@[simp] theorem setSlots_mask (v : List Slot) : (s.setSlots v).mask = s.mask := rfl
@[simp] theorem setSlots_settings (v : List Slot) : (s.setSlots v).settings = s.settings := rfl
@[simp] theorem setSlots_clock (v : List Slot) : (s.setSlots v).clock = s.clock := rfl
@[simp] theorem setSlots_slots (v : List Slot) : (s.setSlots v).slots = v := rfl
@[simp] theorem setSlots_transport (v : List Slot) : (s.setSlots v).transport = s.transport := rfl
@[simp] theorem setSlots_zeroizedMark (v : List Slot) : (s.setSlots v).zeroizedMark = s.zeroizedMark := rfl
@[simp] theorem setSlots_stager (v : List Slot) : (s.setSlots v).stager = s.stager := rfl
@[simp] theorem setSlots_rollovers (v : List Slot) : (s.setSlots v).rollovers = s.rollovers := rfl
@[simp] theorem setSlots_cache (v : List Slot) : (s.setSlots v).cache = s.cache := rfl
@[simp] theorem setSlots_places (v : List Slot) : (s.setSlots v).places = s.places := rfl
@[simp] theorem setSlots_u0 (v : List Slot) : (s.setSlots v).u0 = s.u0 := rfl
@[simp] theorem setSlots_u1 (v : List Slot) : (s.setSlots v).u1 = s.u1 := rfl
@[simp] theorem setSlots_suspended (v : List Slot) : (s.setSlots v).suspended = s.suspended := rfl
@[simp] theorem setSlots_test (v : List Slot) : (s.setSlots v).test = s.test := rfl
@[simp] theorem setSlots_jobs (v : List Slot) : (s.setSlots v).jobs = s.jobs := rfl
@[simp] theorem setSlots_nextSequence (v : List Slot) : (s.setSlots v).nextSequence = s.nextSequence := rfl
@[simp] theorem setSlots_thermal (v : List Slot) : (s.setSlots v).thermal = s.thermal := rfl
@[simp] theorem setSlots_queue (v : List Slot) : (s.setSlots v).queue = s.queue := rfl
@[simp] theorem setSlots_restarting (v : List Slot) : (s.setSlots v).restarting = s.restarting := rfl
@[simp] theorem setSlots_draws (v : List Slot) : (s.setSlots v).draws = s.draws := rfl
@[simp] theorem setSlots_answer (v : List Slot) : (s.setSlots v).answer = s.answer := rfl
@[simp] theorem setSlots_pending (v : List Slot) : (s.setSlots v).pending = s.pending := rfl

@[simp] theorem setTransport_power (v : Option TransportKey) : (s.setTransport v).power = s.power := rfl
@[simp] theorem setTransport_straps (v : Option TransportKey) : (s.setTransport v).straps = s.straps := rfl
@[simp] theorem setTransport_link (v : Option TransportKey) : (s.setTransport v).link = s.link := rfl
@[simp] theorem setTransport_service (v : Option TransportKey) : (s.setTransport v).service = s.service := rfl
@[simp] theorem setTransport_mask (v : Option TransportKey) : (s.setTransport v).mask = s.mask := rfl
@[simp] theorem setTransport_settings (v : Option TransportKey) : (s.setTransport v).settings = s.settings := rfl
@[simp] theorem setTransport_clock (v : Option TransportKey) : (s.setTransport v).clock = s.clock := rfl
@[simp] theorem setTransport_slots (v : Option TransportKey) : (s.setTransport v).slots = s.slots := rfl
@[simp] theorem setTransport_transport (v : Option TransportKey) : (s.setTransport v).transport = v := rfl
@[simp] theorem setTransport_zeroizedMark (v : Option TransportKey) : (s.setTransport v).zeroizedMark = s.zeroizedMark := rfl
@[simp] theorem setTransport_stager (v : Option TransportKey) : (s.setTransport v).stager = s.stager := rfl
@[simp] theorem setTransport_rollovers (v : Option TransportKey) : (s.setTransport v).rollovers = s.rollovers := rfl
@[simp] theorem setTransport_cache (v : Option TransportKey) : (s.setTransport v).cache = s.cache := rfl
@[simp] theorem setTransport_places (v : Option TransportKey) : (s.setTransport v).places = s.places := rfl
@[simp] theorem setTransport_u0 (v : Option TransportKey) : (s.setTransport v).u0 = s.u0 := rfl
@[simp] theorem setTransport_u1 (v : Option TransportKey) : (s.setTransport v).u1 = s.u1 := rfl
@[simp] theorem setTransport_suspended (v : Option TransportKey) : (s.setTransport v).suspended = s.suspended := rfl
@[simp] theorem setTransport_test (v : Option TransportKey) : (s.setTransport v).test = s.test := rfl
@[simp] theorem setTransport_jobs (v : Option TransportKey) : (s.setTransport v).jobs = s.jobs := rfl
@[simp] theorem setTransport_nextSequence (v : Option TransportKey) : (s.setTransport v).nextSequence = s.nextSequence := rfl
@[simp] theorem setTransport_thermal (v : Option TransportKey) : (s.setTransport v).thermal = s.thermal := rfl
@[simp] theorem setTransport_queue (v : Option TransportKey) : (s.setTransport v).queue = s.queue := rfl
@[simp] theorem setTransport_restarting (v : Option TransportKey) : (s.setTransport v).restarting = s.restarting := rfl
@[simp] theorem setTransport_draws (v : Option TransportKey) : (s.setTransport v).draws = s.draws := rfl
@[simp] theorem setTransport_answer (v : Option TransportKey) : (s.setTransport v).answer = s.answer := rfl
@[simp] theorem setTransport_pending (v : Option TransportKey) : (s.setTransport v).pending = s.pending := rfl

@[simp] theorem setZeroizedMark_power (v : Bool) : (s.setZeroizedMark v).power = s.power := rfl
@[simp] theorem setZeroizedMark_straps (v : Bool) : (s.setZeroizedMark v).straps = s.straps := rfl
@[simp] theorem setZeroizedMark_link (v : Bool) : (s.setZeroizedMark v).link = s.link := rfl
@[simp] theorem setZeroizedMark_service (v : Bool) : (s.setZeroizedMark v).service = s.service := rfl
@[simp] theorem setZeroizedMark_mask (v : Bool) : (s.setZeroizedMark v).mask = s.mask := rfl
@[simp] theorem setZeroizedMark_settings (v : Bool) : (s.setZeroizedMark v).settings = s.settings := rfl
@[simp] theorem setZeroizedMark_clock (v : Bool) : (s.setZeroizedMark v).clock = s.clock := rfl
@[simp] theorem setZeroizedMark_slots (v : Bool) : (s.setZeroizedMark v).slots = s.slots := rfl
@[simp] theorem setZeroizedMark_transport (v : Bool) : (s.setZeroizedMark v).transport = s.transport := rfl
@[simp] theorem setZeroizedMark_zeroizedMark (v : Bool) : (s.setZeroizedMark v).zeroizedMark = v := rfl
@[simp] theorem setZeroizedMark_stager (v : Bool) : (s.setZeroizedMark v).stager = s.stager := rfl
@[simp] theorem setZeroizedMark_rollovers (v : Bool) : (s.setZeroizedMark v).rollovers = s.rollovers := rfl
@[simp] theorem setZeroizedMark_cache (v : Bool) : (s.setZeroizedMark v).cache = s.cache := rfl
@[simp] theorem setZeroizedMark_places (v : Bool) : (s.setZeroizedMark v).places = s.places := rfl
@[simp] theorem setZeroizedMark_u0 (v : Bool) : (s.setZeroizedMark v).u0 = s.u0 := rfl
@[simp] theorem setZeroizedMark_u1 (v : Bool) : (s.setZeroizedMark v).u1 = s.u1 := rfl
@[simp] theorem setZeroizedMark_suspended (v : Bool) : (s.setZeroizedMark v).suspended = s.suspended := rfl
@[simp] theorem setZeroizedMark_test (v : Bool) : (s.setZeroizedMark v).test = s.test := rfl
@[simp] theorem setZeroizedMark_jobs (v : Bool) : (s.setZeroizedMark v).jobs = s.jobs := rfl
@[simp] theorem setZeroizedMark_nextSequence (v : Bool) : (s.setZeroizedMark v).nextSequence = s.nextSequence := rfl
@[simp] theorem setZeroizedMark_thermal (v : Bool) : (s.setZeroizedMark v).thermal = s.thermal := rfl
@[simp] theorem setZeroizedMark_queue (v : Bool) : (s.setZeroizedMark v).queue = s.queue := rfl
@[simp] theorem setZeroizedMark_restarting (v : Bool) : (s.setZeroizedMark v).restarting = s.restarting := rfl
@[simp] theorem setZeroizedMark_draws (v : Bool) : (s.setZeroizedMark v).draws = s.draws := rfl
@[simp] theorem setZeroizedMark_answer (v : Bool) : (s.setZeroizedMark v).answer = s.answer := rfl
@[simp] theorem setZeroizedMark_pending (v : Bool) : (s.setZeroizedMark v).pending = s.pending := rfl

@[simp] theorem setStager_power (v : Stager) : (s.setStager v).power = s.power := rfl
@[simp] theorem setStager_straps (v : Stager) : (s.setStager v).straps = s.straps := rfl
@[simp] theorem setStager_link (v : Stager) : (s.setStager v).link = s.link := rfl
@[simp] theorem setStager_service (v : Stager) : (s.setStager v).service = s.service := rfl
@[simp] theorem setStager_mask (v : Stager) : (s.setStager v).mask = s.mask := rfl
@[simp] theorem setStager_settings (v : Stager) : (s.setStager v).settings = s.settings := rfl
@[simp] theorem setStager_clock (v : Stager) : (s.setStager v).clock = s.clock := rfl
@[simp] theorem setStager_slots (v : Stager) : (s.setStager v).slots = s.slots := rfl
@[simp] theorem setStager_transport (v : Stager) : (s.setStager v).transport = s.transport := rfl
@[simp] theorem setStager_zeroizedMark (v : Stager) : (s.setStager v).zeroizedMark = s.zeroizedMark := rfl
@[simp] theorem setStager_stager (v : Stager) : (s.setStager v).stager = v := rfl
@[simp] theorem setStager_rollovers (v : Stager) : (s.setStager v).rollovers = s.rollovers := rfl
@[simp] theorem setStager_cache (v : Stager) : (s.setStager v).cache = s.cache := rfl
@[simp] theorem setStager_places (v : Stager) : (s.setStager v).places = s.places := rfl
@[simp] theorem setStager_u0 (v : Stager) : (s.setStager v).u0 = s.u0 := rfl
@[simp] theorem setStager_u1 (v : Stager) : (s.setStager v).u1 = s.u1 := rfl
@[simp] theorem setStager_suspended (v : Stager) : (s.setStager v).suspended = s.suspended := rfl
@[simp] theorem setStager_test (v : Stager) : (s.setStager v).test = s.test := rfl
@[simp] theorem setStager_jobs (v : Stager) : (s.setStager v).jobs = s.jobs := rfl
@[simp] theorem setStager_nextSequence (v : Stager) : (s.setStager v).nextSequence = s.nextSequence := rfl
@[simp] theorem setStager_thermal (v : Stager) : (s.setStager v).thermal = s.thermal := rfl
@[simp] theorem setStager_queue (v : Stager) : (s.setStager v).queue = s.queue := rfl
@[simp] theorem setStager_restarting (v : Stager) : (s.setStager v).restarting = s.restarting := rfl
@[simp] theorem setStager_draws (v : Stager) : (s.setStager v).draws = s.draws := rfl
@[simp] theorem setStager_answer (v : Stager) : (s.setStager v).answer = s.answer := rfl
@[simp] theorem setStager_pending (v : Stager) : (s.setStager v).pending = s.pending := rfl

@[simp] theorem setRollovers_power (v : List Rollover) : (s.setRollovers v).power = s.power := rfl
@[simp] theorem setRollovers_straps (v : List Rollover) : (s.setRollovers v).straps = s.straps := rfl
@[simp] theorem setRollovers_link (v : List Rollover) : (s.setRollovers v).link = s.link := rfl
@[simp] theorem setRollovers_service (v : List Rollover) : (s.setRollovers v).service = s.service := rfl
@[simp] theorem setRollovers_mask (v : List Rollover) : (s.setRollovers v).mask = s.mask := rfl
@[simp] theorem setRollovers_settings (v : List Rollover) : (s.setRollovers v).settings = s.settings := rfl
@[simp] theorem setRollovers_clock (v : List Rollover) : (s.setRollovers v).clock = s.clock := rfl
@[simp] theorem setRollovers_slots (v : List Rollover) : (s.setRollovers v).slots = s.slots := rfl
@[simp] theorem setRollovers_transport (v : List Rollover) : (s.setRollovers v).transport = s.transport := rfl
@[simp] theorem setRollovers_zeroizedMark (v : List Rollover) : (s.setRollovers v).zeroizedMark = s.zeroizedMark := rfl
@[simp] theorem setRollovers_stager (v : List Rollover) : (s.setRollovers v).stager = s.stager := rfl
@[simp] theorem setRollovers_rollovers (v : List Rollover) : (s.setRollovers v).rollovers = v := rfl
@[simp] theorem setRollovers_cache (v : List Rollover) : (s.setRollovers v).cache = s.cache := rfl
@[simp] theorem setRollovers_places (v : List Rollover) : (s.setRollovers v).places = s.places := rfl
@[simp] theorem setRollovers_u0 (v : List Rollover) : (s.setRollovers v).u0 = s.u0 := rfl
@[simp] theorem setRollovers_u1 (v : List Rollover) : (s.setRollovers v).u1 = s.u1 := rfl
@[simp] theorem setRollovers_suspended (v : List Rollover) : (s.setRollovers v).suspended = s.suspended := rfl
@[simp] theorem setRollovers_test (v : List Rollover) : (s.setRollovers v).test = s.test := rfl
@[simp] theorem setRollovers_jobs (v : List Rollover) : (s.setRollovers v).jobs = s.jobs := rfl
@[simp] theorem setRollovers_nextSequence (v : List Rollover) : (s.setRollovers v).nextSequence = s.nextSequence := rfl
@[simp] theorem setRollovers_thermal (v : List Rollover) : (s.setRollovers v).thermal = s.thermal := rfl
@[simp] theorem setRollovers_queue (v : List Rollover) : (s.setRollovers v).queue = s.queue := rfl
@[simp] theorem setRollovers_restarting (v : List Rollover) : (s.setRollovers v).restarting = s.restarting := rfl
@[simp] theorem setRollovers_draws (v : List Rollover) : (s.setRollovers v).draws = s.draws := rfl
@[simp] theorem setRollovers_answer (v : List Rollover) : (s.setRollovers v).answer = s.answer := rfl
@[simp] theorem setRollovers_pending (v : List Rollover) : (s.setRollovers v).pending = s.pending := rfl

@[simp] theorem setCache_power (v : List CacheEntry) : (s.setCache v).power = s.power := rfl
@[simp] theorem setCache_straps (v : List CacheEntry) : (s.setCache v).straps = s.straps := rfl
@[simp] theorem setCache_link (v : List CacheEntry) : (s.setCache v).link = s.link := rfl
@[simp] theorem setCache_service (v : List CacheEntry) : (s.setCache v).service = s.service := rfl
@[simp] theorem setCache_mask (v : List CacheEntry) : (s.setCache v).mask = s.mask := rfl
@[simp] theorem setCache_settings (v : List CacheEntry) : (s.setCache v).settings = s.settings := rfl
@[simp] theorem setCache_clock (v : List CacheEntry) : (s.setCache v).clock = s.clock := rfl
@[simp] theorem setCache_slots (v : List CacheEntry) : (s.setCache v).slots = s.slots := rfl
@[simp] theorem setCache_transport (v : List CacheEntry) : (s.setCache v).transport = s.transport := rfl
@[simp] theorem setCache_zeroizedMark (v : List CacheEntry) : (s.setCache v).zeroizedMark = s.zeroizedMark := rfl
@[simp] theorem setCache_stager (v : List CacheEntry) : (s.setCache v).stager = s.stager := rfl
@[simp] theorem setCache_rollovers (v : List CacheEntry) : (s.setCache v).rollovers = s.rollovers := rfl
@[simp] theorem setCache_cache (v : List CacheEntry) : (s.setCache v).cache = v := rfl
@[simp] theorem setCache_places (v : List CacheEntry) : (s.setCache v).places = s.places := rfl
@[simp] theorem setCache_u0 (v : List CacheEntry) : (s.setCache v).u0 = s.u0 := rfl
@[simp] theorem setCache_u1 (v : List CacheEntry) : (s.setCache v).u1 = s.u1 := rfl
@[simp] theorem setCache_suspended (v : List CacheEntry) : (s.setCache v).suspended = s.suspended := rfl
@[simp] theorem setCache_test (v : List CacheEntry) : (s.setCache v).test = s.test := rfl
@[simp] theorem setCache_jobs (v : List CacheEntry) : (s.setCache v).jobs = s.jobs := rfl
@[simp] theorem setCache_nextSequence (v : List CacheEntry) : (s.setCache v).nextSequence = s.nextSequence := rfl
@[simp] theorem setCache_thermal (v : List CacheEntry) : (s.setCache v).thermal = s.thermal := rfl
@[simp] theorem setCache_queue (v : List CacheEntry) : (s.setCache v).queue = s.queue := rfl
@[simp] theorem setCache_restarting (v : List CacheEntry) : (s.setCache v).restarting = s.restarting := rfl
@[simp] theorem setCache_draws (v : List CacheEntry) : (s.setCache v).draws = s.draws := rfl
@[simp] theorem setCache_answer (v : List CacheEntry) : (s.setCache v).answer = s.answer := rfl
@[simp] theorem setCache_pending (v : List CacheEntry) : (s.setCache v).pending = s.pending := rfl

@[simp] theorem setPlaces_power (v : List Place) : (s.setPlaces v).power = s.power := rfl
@[simp] theorem setPlaces_straps (v : List Place) : (s.setPlaces v).straps = s.straps := rfl
@[simp] theorem setPlaces_link (v : List Place) : (s.setPlaces v).link = s.link := rfl
@[simp] theorem setPlaces_service (v : List Place) : (s.setPlaces v).service = s.service := rfl
@[simp] theorem setPlaces_mask (v : List Place) : (s.setPlaces v).mask = s.mask := rfl
@[simp] theorem setPlaces_settings (v : List Place) : (s.setPlaces v).settings = s.settings := rfl
@[simp] theorem setPlaces_clock (v : List Place) : (s.setPlaces v).clock = s.clock := rfl
@[simp] theorem setPlaces_slots (v : List Place) : (s.setPlaces v).slots = s.slots := rfl
@[simp] theorem setPlaces_transport (v : List Place) : (s.setPlaces v).transport = s.transport := rfl
@[simp] theorem setPlaces_zeroizedMark (v : List Place) : (s.setPlaces v).zeroizedMark = s.zeroizedMark := rfl
@[simp] theorem setPlaces_stager (v : List Place) : (s.setPlaces v).stager = s.stager := rfl
@[simp] theorem setPlaces_rollovers (v : List Place) : (s.setPlaces v).rollovers = s.rollovers := rfl
@[simp] theorem setPlaces_cache (v : List Place) : (s.setPlaces v).cache = s.cache := rfl
@[simp] theorem setPlaces_places (v : List Place) : (s.setPlaces v).places = v := rfl
@[simp] theorem setPlaces_u0 (v : List Place) : (s.setPlaces v).u0 = s.u0 := rfl
@[simp] theorem setPlaces_u1 (v : List Place) : (s.setPlaces v).u1 = s.u1 := rfl
@[simp] theorem setPlaces_suspended (v : List Place) : (s.setPlaces v).suspended = s.suspended := rfl
@[simp] theorem setPlaces_test (v : List Place) : (s.setPlaces v).test = s.test := rfl
@[simp] theorem setPlaces_jobs (v : List Place) : (s.setPlaces v).jobs = s.jobs := rfl
@[simp] theorem setPlaces_nextSequence (v : List Place) : (s.setPlaces v).nextSequence = s.nextSequence := rfl
@[simp] theorem setPlaces_thermal (v : List Place) : (s.setPlaces v).thermal = s.thermal := rfl
@[simp] theorem setPlaces_queue (v : List Place) : (s.setPlaces v).queue = s.queue := rfl
@[simp] theorem setPlaces_restarting (v : List Place) : (s.setPlaces v).restarting = s.restarting := rfl
@[simp] theorem setPlaces_draws (v : List Place) : (s.setPlaces v).draws = s.draws := rfl
@[simp] theorem setPlaces_answer (v : List Place) : (s.setPlaces v).answer = s.answer := rfl
@[simp] theorem setPlaces_pending (v : List Place) : (s.setPlaces v).pending = s.pending := rfl

@[simp] theorem setU0_power (v : CipherUnit) : (s.setU0 v).power = s.power := rfl
@[simp] theorem setU0_straps (v : CipherUnit) : (s.setU0 v).straps = s.straps := rfl
@[simp] theorem setU0_link (v : CipherUnit) : (s.setU0 v).link = s.link := rfl
@[simp] theorem setU0_service (v : CipherUnit) : (s.setU0 v).service = s.service := rfl
@[simp] theorem setU0_mask (v : CipherUnit) : (s.setU0 v).mask = s.mask := rfl
@[simp] theorem setU0_settings (v : CipherUnit) : (s.setU0 v).settings = s.settings := rfl
@[simp] theorem setU0_clock (v : CipherUnit) : (s.setU0 v).clock = s.clock := rfl
@[simp] theorem setU0_slots (v : CipherUnit) : (s.setU0 v).slots = s.slots := rfl
@[simp] theorem setU0_transport (v : CipherUnit) : (s.setU0 v).transport = s.transport := rfl
@[simp] theorem setU0_zeroizedMark (v : CipherUnit) : (s.setU0 v).zeroizedMark = s.zeroizedMark := rfl
@[simp] theorem setU0_stager (v : CipherUnit) : (s.setU0 v).stager = s.stager := rfl
@[simp] theorem setU0_rollovers (v : CipherUnit) : (s.setU0 v).rollovers = s.rollovers := rfl
@[simp] theorem setU0_cache (v : CipherUnit) : (s.setU0 v).cache = s.cache := rfl
@[simp] theorem setU0_places (v : CipherUnit) : (s.setU0 v).places = s.places := rfl
@[simp] theorem setU0_u0 (v : CipherUnit) : (s.setU0 v).u0 = v := rfl
@[simp] theorem setU0_u1 (v : CipherUnit) : (s.setU0 v).u1 = s.u1 := rfl
@[simp] theorem setU0_suspended (v : CipherUnit) : (s.setU0 v).suspended = s.suspended := rfl
@[simp] theorem setU0_test (v : CipherUnit) : (s.setU0 v).test = s.test := rfl
@[simp] theorem setU0_jobs (v : CipherUnit) : (s.setU0 v).jobs = s.jobs := rfl
@[simp] theorem setU0_nextSequence (v : CipherUnit) : (s.setU0 v).nextSequence = s.nextSequence := rfl
@[simp] theorem setU0_thermal (v : CipherUnit) : (s.setU0 v).thermal = s.thermal := rfl
@[simp] theorem setU0_queue (v : CipherUnit) : (s.setU0 v).queue = s.queue := rfl
@[simp] theorem setU0_restarting (v : CipherUnit) : (s.setU0 v).restarting = s.restarting := rfl
@[simp] theorem setU0_draws (v : CipherUnit) : (s.setU0 v).draws = s.draws := rfl
@[simp] theorem setU0_answer (v : CipherUnit) : (s.setU0 v).answer = s.answer := rfl
@[simp] theorem setU0_pending (v : CipherUnit) : (s.setU0 v).pending = s.pending := rfl

@[simp] theorem setU1_power (v : CipherUnit) : (s.setU1 v).power = s.power := rfl
@[simp] theorem setU1_straps (v : CipherUnit) : (s.setU1 v).straps = s.straps := rfl
@[simp] theorem setU1_link (v : CipherUnit) : (s.setU1 v).link = s.link := rfl
@[simp] theorem setU1_service (v : CipherUnit) : (s.setU1 v).service = s.service := rfl
@[simp] theorem setU1_mask (v : CipherUnit) : (s.setU1 v).mask = s.mask := rfl
@[simp] theorem setU1_settings (v : CipherUnit) : (s.setU1 v).settings = s.settings := rfl
@[simp] theorem setU1_clock (v : CipherUnit) : (s.setU1 v).clock = s.clock := rfl
@[simp] theorem setU1_slots (v : CipherUnit) : (s.setU1 v).slots = s.slots := rfl
@[simp] theorem setU1_transport (v : CipherUnit) : (s.setU1 v).transport = s.transport := rfl
@[simp] theorem setU1_zeroizedMark (v : CipherUnit) : (s.setU1 v).zeroizedMark = s.zeroizedMark := rfl
@[simp] theorem setU1_stager (v : CipherUnit) : (s.setU1 v).stager = s.stager := rfl
@[simp] theorem setU1_rollovers (v : CipherUnit) : (s.setU1 v).rollovers = s.rollovers := rfl
@[simp] theorem setU1_cache (v : CipherUnit) : (s.setU1 v).cache = s.cache := rfl
@[simp] theorem setU1_places (v : CipherUnit) : (s.setU1 v).places = s.places := rfl
@[simp] theorem setU1_u0 (v : CipherUnit) : (s.setU1 v).u0 = s.u0 := rfl
@[simp] theorem setU1_u1 (v : CipherUnit) : (s.setU1 v).u1 = v := rfl
@[simp] theorem setU1_suspended (v : CipherUnit) : (s.setU1 v).suspended = s.suspended := rfl
@[simp] theorem setU1_test (v : CipherUnit) : (s.setU1 v).test = s.test := rfl
@[simp] theorem setU1_jobs (v : CipherUnit) : (s.setU1 v).jobs = s.jobs := rfl
@[simp] theorem setU1_nextSequence (v : CipherUnit) : (s.setU1 v).nextSequence = s.nextSequence := rfl
@[simp] theorem setU1_thermal (v : CipherUnit) : (s.setU1 v).thermal = s.thermal := rfl
@[simp] theorem setU1_queue (v : CipherUnit) : (s.setU1 v).queue = s.queue := rfl
@[simp] theorem setU1_restarting (v : CipherUnit) : (s.setU1 v).restarting = s.restarting := rfl
@[simp] theorem setU1_draws (v : CipherUnit) : (s.setU1 v).draws = s.draws := rfl
@[simp] theorem setU1_answer (v : CipherUnit) : (s.setU1 v).answer = s.answer := rfl
@[simp] theorem setU1_pending (v : CipherUnit) : (s.setU1 v).pending = s.pending := rfl

@[simp] theorem setSuspended_power (v : Bool) : (s.setSuspended v).power = s.power := rfl
@[simp] theorem setSuspended_straps (v : Bool) : (s.setSuspended v).straps = s.straps := rfl
@[simp] theorem setSuspended_link (v : Bool) : (s.setSuspended v).link = s.link := rfl
@[simp] theorem setSuspended_service (v : Bool) : (s.setSuspended v).service = s.service := rfl
@[simp] theorem setSuspended_mask (v : Bool) : (s.setSuspended v).mask = s.mask := rfl
@[simp] theorem setSuspended_settings (v : Bool) : (s.setSuspended v).settings = s.settings := rfl
@[simp] theorem setSuspended_clock (v : Bool) : (s.setSuspended v).clock = s.clock := rfl
@[simp] theorem setSuspended_slots (v : Bool) : (s.setSuspended v).slots = s.slots := rfl
@[simp] theorem setSuspended_transport (v : Bool) : (s.setSuspended v).transport = s.transport := rfl
@[simp] theorem setSuspended_zeroizedMark (v : Bool) : (s.setSuspended v).zeroizedMark = s.zeroizedMark := rfl
@[simp] theorem setSuspended_stager (v : Bool) : (s.setSuspended v).stager = s.stager := rfl
@[simp] theorem setSuspended_rollovers (v : Bool) : (s.setSuspended v).rollovers = s.rollovers := rfl
@[simp] theorem setSuspended_cache (v : Bool) : (s.setSuspended v).cache = s.cache := rfl
@[simp] theorem setSuspended_places (v : Bool) : (s.setSuspended v).places = s.places := rfl
@[simp] theorem setSuspended_u0 (v : Bool) : (s.setSuspended v).u0 = s.u0 := rfl
@[simp] theorem setSuspended_u1 (v : Bool) : (s.setSuspended v).u1 = s.u1 := rfl
@[simp] theorem setSuspended_suspended (v : Bool) : (s.setSuspended v).suspended = v := rfl
@[simp] theorem setSuspended_test (v : Bool) : (s.setSuspended v).test = s.test := rfl
@[simp] theorem setSuspended_jobs (v : Bool) : (s.setSuspended v).jobs = s.jobs := rfl
@[simp] theorem setSuspended_nextSequence (v : Bool) : (s.setSuspended v).nextSequence = s.nextSequence := rfl
@[simp] theorem setSuspended_thermal (v : Bool) : (s.setSuspended v).thermal = s.thermal := rfl
@[simp] theorem setSuspended_queue (v : Bool) : (s.setSuspended v).queue = s.queue := rfl
@[simp] theorem setSuspended_restarting (v : Bool) : (s.setSuspended v).restarting = s.restarting := rfl
@[simp] theorem setSuspended_draws (v : Bool) : (s.setSuspended v).draws = s.draws := rfl
@[simp] theorem setSuspended_answer (v : Bool) : (s.setSuspended v).answer = s.answer := rfl
@[simp] theorem setSuspended_pending (v : Bool) : (s.setSuspended v).pending = s.pending := rfl

@[simp] theorem setTest_power (v : Option TestOrigin) : (s.setTest v).power = s.power := rfl
@[simp] theorem setTest_straps (v : Option TestOrigin) : (s.setTest v).straps = s.straps := rfl
@[simp] theorem setTest_link (v : Option TestOrigin) : (s.setTest v).link = s.link := rfl
@[simp] theorem setTest_service (v : Option TestOrigin) : (s.setTest v).service = s.service := rfl
@[simp] theorem setTest_mask (v : Option TestOrigin) : (s.setTest v).mask = s.mask := rfl
@[simp] theorem setTest_settings (v : Option TestOrigin) : (s.setTest v).settings = s.settings := rfl
@[simp] theorem setTest_clock (v : Option TestOrigin) : (s.setTest v).clock = s.clock := rfl
@[simp] theorem setTest_slots (v : Option TestOrigin) : (s.setTest v).slots = s.slots := rfl
@[simp] theorem setTest_transport (v : Option TestOrigin) : (s.setTest v).transport = s.transport := rfl
@[simp] theorem setTest_zeroizedMark (v : Option TestOrigin) : (s.setTest v).zeroizedMark = s.zeroizedMark := rfl
@[simp] theorem setTest_stager (v : Option TestOrigin) : (s.setTest v).stager = s.stager := rfl
@[simp] theorem setTest_rollovers (v : Option TestOrigin) : (s.setTest v).rollovers = s.rollovers := rfl
@[simp] theorem setTest_cache (v : Option TestOrigin) : (s.setTest v).cache = s.cache := rfl
@[simp] theorem setTest_places (v : Option TestOrigin) : (s.setTest v).places = s.places := rfl
@[simp] theorem setTest_u0 (v : Option TestOrigin) : (s.setTest v).u0 = s.u0 := rfl
@[simp] theorem setTest_u1 (v : Option TestOrigin) : (s.setTest v).u1 = s.u1 := rfl
@[simp] theorem setTest_suspended (v : Option TestOrigin) : (s.setTest v).suspended = s.suspended := rfl
@[simp] theorem setTest_test (v : Option TestOrigin) : (s.setTest v).test = v := rfl
@[simp] theorem setTest_jobs (v : Option TestOrigin) : (s.setTest v).jobs = s.jobs := rfl
@[simp] theorem setTest_nextSequence (v : Option TestOrigin) : (s.setTest v).nextSequence = s.nextSequence := rfl
@[simp] theorem setTest_thermal (v : Option TestOrigin) : (s.setTest v).thermal = s.thermal := rfl
@[simp] theorem setTest_queue (v : Option TestOrigin) : (s.setTest v).queue = s.queue := rfl
@[simp] theorem setTest_restarting (v : Option TestOrigin) : (s.setTest v).restarting = s.restarting := rfl
@[simp] theorem setTest_draws (v : Option TestOrigin) : (s.setTest v).draws = s.draws := rfl
@[simp] theorem setTest_answer (v : Option TestOrigin) : (s.setTest v).answer = s.answer := rfl
@[simp] theorem setTest_pending (v : Option TestOrigin) : (s.setTest v).pending = s.pending := rfl

@[simp] theorem setJobs_power (v : List Job) : (s.setJobs v).power = s.power := rfl
@[simp] theorem setJobs_straps (v : List Job) : (s.setJobs v).straps = s.straps := rfl
@[simp] theorem setJobs_link (v : List Job) : (s.setJobs v).link = s.link := rfl
@[simp] theorem setJobs_service (v : List Job) : (s.setJobs v).service = s.service := rfl
@[simp] theorem setJobs_mask (v : List Job) : (s.setJobs v).mask = s.mask := rfl
@[simp] theorem setJobs_settings (v : List Job) : (s.setJobs v).settings = s.settings := rfl
@[simp] theorem setJobs_clock (v : List Job) : (s.setJobs v).clock = s.clock := rfl
@[simp] theorem setJobs_slots (v : List Job) : (s.setJobs v).slots = s.slots := rfl
@[simp] theorem setJobs_transport (v : List Job) : (s.setJobs v).transport = s.transport := rfl
@[simp] theorem setJobs_zeroizedMark (v : List Job) : (s.setJobs v).zeroizedMark = s.zeroizedMark := rfl
@[simp] theorem setJobs_stager (v : List Job) : (s.setJobs v).stager = s.stager := rfl
@[simp] theorem setJobs_rollovers (v : List Job) : (s.setJobs v).rollovers = s.rollovers := rfl
@[simp] theorem setJobs_cache (v : List Job) : (s.setJobs v).cache = s.cache := rfl
@[simp] theorem setJobs_places (v : List Job) : (s.setJobs v).places = s.places := rfl
@[simp] theorem setJobs_u0 (v : List Job) : (s.setJobs v).u0 = s.u0 := rfl
@[simp] theorem setJobs_u1 (v : List Job) : (s.setJobs v).u1 = s.u1 := rfl
@[simp] theorem setJobs_suspended (v : List Job) : (s.setJobs v).suspended = s.suspended := rfl
@[simp] theorem setJobs_test (v : List Job) : (s.setJobs v).test = s.test := rfl
@[simp] theorem setJobs_jobs (v : List Job) : (s.setJobs v).jobs = v := rfl
@[simp] theorem setJobs_nextSequence (v : List Job) : (s.setJobs v).nextSequence = s.nextSequence := rfl
@[simp] theorem setJobs_thermal (v : List Job) : (s.setJobs v).thermal = s.thermal := rfl
@[simp] theorem setJobs_queue (v : List Job) : (s.setJobs v).queue = s.queue := rfl
@[simp] theorem setJobs_restarting (v : List Job) : (s.setJobs v).restarting = s.restarting := rfl
@[simp] theorem setJobs_draws (v : List Job) : (s.setJobs v).draws = s.draws := rfl
@[simp] theorem setJobs_answer (v : List Job) : (s.setJobs v).answer = s.answer := rfl
@[simp] theorem setJobs_pending (v : List Job) : (s.setJobs v).pending = s.pending := rfl

@[simp] theorem setNextSequence_power (v : Nat) : (s.setNextSequence v).power = s.power := rfl
@[simp] theorem setNextSequence_straps (v : Nat) : (s.setNextSequence v).straps = s.straps := rfl
@[simp] theorem setNextSequence_link (v : Nat) : (s.setNextSequence v).link = s.link := rfl
@[simp] theorem setNextSequence_service (v : Nat) : (s.setNextSequence v).service = s.service := rfl
@[simp] theorem setNextSequence_mask (v : Nat) : (s.setNextSequence v).mask = s.mask := rfl
@[simp] theorem setNextSequence_settings (v : Nat) : (s.setNextSequence v).settings = s.settings := rfl
@[simp] theorem setNextSequence_clock (v : Nat) : (s.setNextSequence v).clock = s.clock := rfl
@[simp] theorem setNextSequence_slots (v : Nat) : (s.setNextSequence v).slots = s.slots := rfl
@[simp] theorem setNextSequence_transport (v : Nat) : (s.setNextSequence v).transport = s.transport := rfl
@[simp] theorem setNextSequence_zeroizedMark (v : Nat) : (s.setNextSequence v).zeroizedMark = s.zeroizedMark := rfl
@[simp] theorem setNextSequence_stager (v : Nat) : (s.setNextSequence v).stager = s.stager := rfl
@[simp] theorem setNextSequence_rollovers (v : Nat) : (s.setNextSequence v).rollovers = s.rollovers := rfl
@[simp] theorem setNextSequence_cache (v : Nat) : (s.setNextSequence v).cache = s.cache := rfl
@[simp] theorem setNextSequence_places (v : Nat) : (s.setNextSequence v).places = s.places := rfl
@[simp] theorem setNextSequence_u0 (v : Nat) : (s.setNextSequence v).u0 = s.u0 := rfl
@[simp] theorem setNextSequence_u1 (v : Nat) : (s.setNextSequence v).u1 = s.u1 := rfl
@[simp] theorem setNextSequence_suspended (v : Nat) : (s.setNextSequence v).suspended = s.suspended := rfl
@[simp] theorem setNextSequence_test (v : Nat) : (s.setNextSequence v).test = s.test := rfl
@[simp] theorem setNextSequence_jobs (v : Nat) : (s.setNextSequence v).jobs = s.jobs := rfl
@[simp] theorem setNextSequence_nextSequence (v : Nat) : (s.setNextSequence v).nextSequence = v := rfl
@[simp] theorem setNextSequence_thermal (v : Nat) : (s.setNextSequence v).thermal = s.thermal := rfl
@[simp] theorem setNextSequence_queue (v : Nat) : (s.setNextSequence v).queue = s.queue := rfl
@[simp] theorem setNextSequence_restarting (v : Nat) : (s.setNextSequence v).restarting = s.restarting := rfl
@[simp] theorem setNextSequence_draws (v : Nat) : (s.setNextSequence v).draws = s.draws := rfl
@[simp] theorem setNextSequence_answer (v : Nat) : (s.setNextSequence v).answer = s.answer := rfl
@[simp] theorem setNextSequence_pending (v : Nat) : (s.setNextSequence v).pending = s.pending := rfl

@[simp] theorem setThermal_power (v : Thermal) : (s.setThermal v).power = s.power := rfl
@[simp] theorem setThermal_straps (v : Thermal) : (s.setThermal v).straps = s.straps := rfl
@[simp] theorem setThermal_link (v : Thermal) : (s.setThermal v).link = s.link := rfl
@[simp] theorem setThermal_service (v : Thermal) : (s.setThermal v).service = s.service := rfl
@[simp] theorem setThermal_mask (v : Thermal) : (s.setThermal v).mask = s.mask := rfl
@[simp] theorem setThermal_settings (v : Thermal) : (s.setThermal v).settings = s.settings := rfl
@[simp] theorem setThermal_clock (v : Thermal) : (s.setThermal v).clock = s.clock := rfl
@[simp] theorem setThermal_slots (v : Thermal) : (s.setThermal v).slots = s.slots := rfl
@[simp] theorem setThermal_transport (v : Thermal) : (s.setThermal v).transport = s.transport := rfl
@[simp] theorem setThermal_zeroizedMark (v : Thermal) : (s.setThermal v).zeroizedMark = s.zeroizedMark := rfl
@[simp] theorem setThermal_stager (v : Thermal) : (s.setThermal v).stager = s.stager := rfl
@[simp] theorem setThermal_rollovers (v : Thermal) : (s.setThermal v).rollovers = s.rollovers := rfl
@[simp] theorem setThermal_cache (v : Thermal) : (s.setThermal v).cache = s.cache := rfl
@[simp] theorem setThermal_places (v : Thermal) : (s.setThermal v).places = s.places := rfl
@[simp] theorem setThermal_u0 (v : Thermal) : (s.setThermal v).u0 = s.u0 := rfl
@[simp] theorem setThermal_u1 (v : Thermal) : (s.setThermal v).u1 = s.u1 := rfl
@[simp] theorem setThermal_suspended (v : Thermal) : (s.setThermal v).suspended = s.suspended := rfl
@[simp] theorem setThermal_test (v : Thermal) : (s.setThermal v).test = s.test := rfl
@[simp] theorem setThermal_jobs (v : Thermal) : (s.setThermal v).jobs = s.jobs := rfl
@[simp] theorem setThermal_nextSequence (v : Thermal) : (s.setThermal v).nextSequence = s.nextSequence := rfl
@[simp] theorem setThermal_thermal (v : Thermal) : (s.setThermal v).thermal = v := rfl
@[simp] theorem setThermal_queue (v : Thermal) : (s.setThermal v).queue = s.queue := rfl
@[simp] theorem setThermal_restarting (v : Thermal) : (s.setThermal v).restarting = s.restarting := rfl
@[simp] theorem setThermal_draws (v : Thermal) : (s.setThermal v).draws = s.draws := rfl
@[simp] theorem setThermal_answer (v : Thermal) : (s.setThermal v).answer = s.answer := rfl
@[simp] theorem setThermal_pending (v : Thermal) : (s.setThermal v).pending = s.pending := rfl

@[simp] theorem setQueue_power (v : CompletionQueue) : (s.setQueue v).power = s.power := rfl
@[simp] theorem setQueue_straps (v : CompletionQueue) : (s.setQueue v).straps = s.straps := rfl
@[simp] theorem setQueue_link (v : CompletionQueue) : (s.setQueue v).link = s.link := rfl
@[simp] theorem setQueue_service (v : CompletionQueue) : (s.setQueue v).service = s.service := rfl
@[simp] theorem setQueue_mask (v : CompletionQueue) : (s.setQueue v).mask = s.mask := rfl
@[simp] theorem setQueue_settings (v : CompletionQueue) : (s.setQueue v).settings = s.settings := rfl
@[simp] theorem setQueue_clock (v : CompletionQueue) : (s.setQueue v).clock = s.clock := rfl
@[simp] theorem setQueue_slots (v : CompletionQueue) : (s.setQueue v).slots = s.slots := rfl
@[simp] theorem setQueue_transport (v : CompletionQueue) : (s.setQueue v).transport = s.transport := rfl
@[simp] theorem setQueue_zeroizedMark (v : CompletionQueue) : (s.setQueue v).zeroizedMark = s.zeroizedMark := rfl
@[simp] theorem setQueue_stager (v : CompletionQueue) : (s.setQueue v).stager = s.stager := rfl
@[simp] theorem setQueue_rollovers (v : CompletionQueue) : (s.setQueue v).rollovers = s.rollovers := rfl
@[simp] theorem setQueue_cache (v : CompletionQueue) : (s.setQueue v).cache = s.cache := rfl
@[simp] theorem setQueue_places (v : CompletionQueue) : (s.setQueue v).places = s.places := rfl
@[simp] theorem setQueue_u0 (v : CompletionQueue) : (s.setQueue v).u0 = s.u0 := rfl
@[simp] theorem setQueue_u1 (v : CompletionQueue) : (s.setQueue v).u1 = s.u1 := rfl
@[simp] theorem setQueue_suspended (v : CompletionQueue) : (s.setQueue v).suspended = s.suspended := rfl
@[simp] theorem setQueue_test (v : CompletionQueue) : (s.setQueue v).test = s.test := rfl
@[simp] theorem setQueue_jobs (v : CompletionQueue) : (s.setQueue v).jobs = s.jobs := rfl
@[simp] theorem setQueue_nextSequence (v : CompletionQueue) : (s.setQueue v).nextSequence = s.nextSequence := rfl
@[simp] theorem setQueue_thermal (v : CompletionQueue) : (s.setQueue v).thermal = s.thermal := rfl
@[simp] theorem setQueue_queue (v : CompletionQueue) : (s.setQueue v).queue = v := rfl
@[simp] theorem setQueue_restarting (v : CompletionQueue) : (s.setQueue v).restarting = s.restarting := rfl
@[simp] theorem setQueue_draws (v : CompletionQueue) : (s.setQueue v).draws = s.draws := rfl
@[simp] theorem setQueue_answer (v : CompletionQueue) : (s.setQueue v).answer = s.answer := rfl
@[simp] theorem setQueue_pending (v : CompletionQueue) : (s.setQueue v).pending = s.pending := rfl

@[simp] theorem setRestarting_power (v : Bool) : (s.setRestarting v).power = s.power := rfl
@[simp] theorem setRestarting_straps (v : Bool) : (s.setRestarting v).straps = s.straps := rfl
@[simp] theorem setRestarting_link (v : Bool) : (s.setRestarting v).link = s.link := rfl
@[simp] theorem setRestarting_service (v : Bool) : (s.setRestarting v).service = s.service := rfl
@[simp] theorem setRestarting_mask (v : Bool) : (s.setRestarting v).mask = s.mask := rfl
@[simp] theorem setRestarting_settings (v : Bool) : (s.setRestarting v).settings = s.settings := rfl
@[simp] theorem setRestarting_clock (v : Bool) : (s.setRestarting v).clock = s.clock := rfl
@[simp] theorem setRestarting_slots (v : Bool) : (s.setRestarting v).slots = s.slots := rfl
@[simp] theorem setRestarting_transport (v : Bool) : (s.setRestarting v).transport = s.transport := rfl
@[simp] theorem setRestarting_zeroizedMark (v : Bool) : (s.setRestarting v).zeroizedMark = s.zeroizedMark := rfl
@[simp] theorem setRestarting_stager (v : Bool) : (s.setRestarting v).stager = s.stager := rfl
@[simp] theorem setRestarting_rollovers (v : Bool) : (s.setRestarting v).rollovers = s.rollovers := rfl
@[simp] theorem setRestarting_cache (v : Bool) : (s.setRestarting v).cache = s.cache := rfl
@[simp] theorem setRestarting_places (v : Bool) : (s.setRestarting v).places = s.places := rfl
@[simp] theorem setRestarting_u0 (v : Bool) : (s.setRestarting v).u0 = s.u0 := rfl
@[simp] theorem setRestarting_u1 (v : Bool) : (s.setRestarting v).u1 = s.u1 := rfl
@[simp] theorem setRestarting_suspended (v : Bool) : (s.setRestarting v).suspended = s.suspended := rfl
@[simp] theorem setRestarting_test (v : Bool) : (s.setRestarting v).test = s.test := rfl
@[simp] theorem setRestarting_jobs (v : Bool) : (s.setRestarting v).jobs = s.jobs := rfl
@[simp] theorem setRestarting_nextSequence (v : Bool) : (s.setRestarting v).nextSequence = s.nextSequence := rfl
@[simp] theorem setRestarting_thermal (v : Bool) : (s.setRestarting v).thermal = s.thermal := rfl
@[simp] theorem setRestarting_queue (v : Bool) : (s.setRestarting v).queue = s.queue := rfl
@[simp] theorem setRestarting_restarting (v : Bool) : (s.setRestarting v).restarting = v := rfl
@[simp] theorem setRestarting_draws (v : Bool) : (s.setRestarting v).draws = s.draws := rfl
@[simp] theorem setRestarting_answer (v : Bool) : (s.setRestarting v).answer = s.answer := rfl
@[simp] theorem setRestarting_pending (v : Bool) : (s.setRestarting v).pending = s.pending := rfl

@[simp] theorem setDraws_power (v : Nat) : (s.setDraws v).power = s.power := rfl
@[simp] theorem setDraws_straps (v : Nat) : (s.setDraws v).straps = s.straps := rfl
@[simp] theorem setDraws_link (v : Nat) : (s.setDraws v).link = s.link := rfl
@[simp] theorem setDraws_service (v : Nat) : (s.setDraws v).service = s.service := rfl
@[simp] theorem setDraws_mask (v : Nat) : (s.setDraws v).mask = s.mask := rfl
@[simp] theorem setDraws_settings (v : Nat) : (s.setDraws v).settings = s.settings := rfl
@[simp] theorem setDraws_clock (v : Nat) : (s.setDraws v).clock = s.clock := rfl
@[simp] theorem setDraws_slots (v : Nat) : (s.setDraws v).slots = s.slots := rfl
@[simp] theorem setDraws_transport (v : Nat) : (s.setDraws v).transport = s.transport := rfl
@[simp] theorem setDraws_zeroizedMark (v : Nat) : (s.setDraws v).zeroizedMark = s.zeroizedMark := rfl
@[simp] theorem setDraws_stager (v : Nat) : (s.setDraws v).stager = s.stager := rfl
@[simp] theorem setDraws_rollovers (v : Nat) : (s.setDraws v).rollovers = s.rollovers := rfl
@[simp] theorem setDraws_cache (v : Nat) : (s.setDraws v).cache = s.cache := rfl
@[simp] theorem setDraws_places (v : Nat) : (s.setDraws v).places = s.places := rfl
@[simp] theorem setDraws_u0 (v : Nat) : (s.setDraws v).u0 = s.u0 := rfl
@[simp] theorem setDraws_u1 (v : Nat) : (s.setDraws v).u1 = s.u1 := rfl
@[simp] theorem setDraws_suspended (v : Nat) : (s.setDraws v).suspended = s.suspended := rfl
@[simp] theorem setDraws_test (v : Nat) : (s.setDraws v).test = s.test := rfl
@[simp] theorem setDraws_jobs (v : Nat) : (s.setDraws v).jobs = s.jobs := rfl
@[simp] theorem setDraws_nextSequence (v : Nat) : (s.setDraws v).nextSequence = s.nextSequence := rfl
@[simp] theorem setDraws_thermal (v : Nat) : (s.setDraws v).thermal = s.thermal := rfl
@[simp] theorem setDraws_queue (v : Nat) : (s.setDraws v).queue = s.queue := rfl
@[simp] theorem setDraws_restarting (v : Nat) : (s.setDraws v).restarting = s.restarting := rfl
@[simp] theorem setDraws_draws (v : Nat) : (s.setDraws v).draws = v := rfl
@[simp] theorem setDraws_answer (v : Nat) : (s.setDraws v).answer = s.answer := rfl
@[simp] theorem setDraws_pending (v : Nat) : (s.setDraws v).pending = s.pending := rfl

@[simp] theorem setAnswer_power (v : Option Answer) : (s.setAnswer v).power = s.power := rfl
@[simp] theorem setAnswer_straps (v : Option Answer) : (s.setAnswer v).straps = s.straps := rfl
@[simp] theorem setAnswer_link (v : Option Answer) : (s.setAnswer v).link = s.link := rfl
@[simp] theorem setAnswer_service (v : Option Answer) : (s.setAnswer v).service = s.service := rfl
@[simp] theorem setAnswer_mask (v : Option Answer) : (s.setAnswer v).mask = s.mask := rfl
@[simp] theorem setAnswer_settings (v : Option Answer) : (s.setAnswer v).settings = s.settings := rfl
@[simp] theorem setAnswer_clock (v : Option Answer) : (s.setAnswer v).clock = s.clock := rfl
@[simp] theorem setAnswer_slots (v : Option Answer) : (s.setAnswer v).slots = s.slots := rfl
@[simp] theorem setAnswer_transport (v : Option Answer) : (s.setAnswer v).transport = s.transport := rfl
@[simp] theorem setAnswer_zeroizedMark (v : Option Answer) : (s.setAnswer v).zeroizedMark = s.zeroizedMark := rfl
@[simp] theorem setAnswer_stager (v : Option Answer) : (s.setAnswer v).stager = s.stager := rfl
@[simp] theorem setAnswer_rollovers (v : Option Answer) : (s.setAnswer v).rollovers = s.rollovers := rfl
@[simp] theorem setAnswer_cache (v : Option Answer) : (s.setAnswer v).cache = s.cache := rfl
@[simp] theorem setAnswer_places (v : Option Answer) : (s.setAnswer v).places = s.places := rfl
@[simp] theorem setAnswer_u0 (v : Option Answer) : (s.setAnswer v).u0 = s.u0 := rfl
@[simp] theorem setAnswer_u1 (v : Option Answer) : (s.setAnswer v).u1 = s.u1 := rfl
@[simp] theorem setAnswer_suspended (v : Option Answer) : (s.setAnswer v).suspended = s.suspended := rfl
@[simp] theorem setAnswer_test (v : Option Answer) : (s.setAnswer v).test = s.test := rfl
@[simp] theorem setAnswer_jobs (v : Option Answer) : (s.setAnswer v).jobs = s.jobs := rfl
@[simp] theorem setAnswer_nextSequence (v : Option Answer) : (s.setAnswer v).nextSequence = s.nextSequence := rfl
@[simp] theorem setAnswer_thermal (v : Option Answer) : (s.setAnswer v).thermal = s.thermal := rfl
@[simp] theorem setAnswer_queue (v : Option Answer) : (s.setAnswer v).queue = s.queue := rfl
@[simp] theorem setAnswer_restarting (v : Option Answer) : (s.setAnswer v).restarting = s.restarting := rfl
@[simp] theorem setAnswer_draws (v : Option Answer) : (s.setAnswer v).draws = s.draws := rfl
@[simp] theorem setAnswer_answer (v : Option Answer) : (s.setAnswer v).answer = v := rfl
@[simp] theorem setAnswer_pending (v : Option Answer) : (s.setAnswer v).pending = s.pending := rfl

@[simp] theorem setPending_power (v : List Instr) : (s.setPending v).power = s.power := rfl
@[simp] theorem setPending_straps (v : List Instr) : (s.setPending v).straps = s.straps := rfl
@[simp] theorem setPending_link (v : List Instr) : (s.setPending v).link = s.link := rfl
@[simp] theorem setPending_service (v : List Instr) : (s.setPending v).service = s.service := rfl
@[simp] theorem setPending_mask (v : List Instr) : (s.setPending v).mask = s.mask := rfl
@[simp] theorem setPending_settings (v : List Instr) : (s.setPending v).settings = s.settings := rfl
@[simp] theorem setPending_clock (v : List Instr) : (s.setPending v).clock = s.clock := rfl
@[simp] theorem setPending_slots (v : List Instr) : (s.setPending v).slots = s.slots := rfl
@[simp] theorem setPending_transport (v : List Instr) : (s.setPending v).transport = s.transport := rfl
@[simp] theorem setPending_zeroizedMark (v : List Instr) : (s.setPending v).zeroizedMark = s.zeroizedMark := rfl
@[simp] theorem setPending_stager (v : List Instr) : (s.setPending v).stager = s.stager := rfl
@[simp] theorem setPending_rollovers (v : List Instr) : (s.setPending v).rollovers = s.rollovers := rfl
@[simp] theorem setPending_cache (v : List Instr) : (s.setPending v).cache = s.cache := rfl
@[simp] theorem setPending_places (v : List Instr) : (s.setPending v).places = s.places := rfl
@[simp] theorem setPending_u0 (v : List Instr) : (s.setPending v).u0 = s.u0 := rfl
@[simp] theorem setPending_u1 (v : List Instr) : (s.setPending v).u1 = s.u1 := rfl
@[simp] theorem setPending_suspended (v : List Instr) : (s.setPending v).suspended = s.suspended := rfl
@[simp] theorem setPending_test (v : List Instr) : (s.setPending v).test = s.test := rfl
@[simp] theorem setPending_jobs (v : List Instr) : (s.setPending v).jobs = s.jobs := rfl
@[simp] theorem setPending_nextSequence (v : List Instr) : (s.setPending v).nextSequence = s.nextSequence := rfl
@[simp] theorem setPending_thermal (v : List Instr) : (s.setPending v).thermal = s.thermal := rfl
@[simp] theorem setPending_queue (v : List Instr) : (s.setPending v).queue = s.queue := rfl
@[simp] theorem setPending_restarting (v : List Instr) : (s.setPending v).restarting = s.restarting := rfl
@[simp] theorem setPending_draws (v : List Instr) : (s.setPending v).draws = s.draws := rfl
@[simp] theorem setPending_answer (v : List Instr) : (s.setPending v).answer = s.answer := rfl
@[simp] theorem setPending_pending (v : List Instr) : (s.setPending v).pending = v := rfl

end Sys2Proof.Machine.State
end

