-- ==== Sys2Proof/Laws/Frames.lean ====
section
/-! SUPPORT. Frames: for each shared operation, the fields that it leaves as they were. -/

namespace Sys2Proof.Machine

variable (s : State)

@[simp] theorem State.post_keeps (r : CompletionRecord) :
    (s.post r).power = s.power ∧ (s.post r).straps = s.straps ∧ (s.post r).link = s.link ∧ (s.post r).service = s.service ∧
    (s.post r).mask = s.mask ∧ (s.post r).settings = s.settings ∧ (s.post r).clock = s.clock ∧ (s.post r).slots = s.slots ∧
    (s.post r).transport = s.transport ∧ (s.post r).zeroizedMark = s.zeroizedMark ∧ (s.post r).stager = s.stager ∧
    (s.post r).rollovers = s.rollovers ∧ (s.post r).cache = s.cache ∧ (s.post r).places = s.places ∧ (s.post r).u0 = s.u0 ∧
    (s.post r).u1 = s.u1 ∧ (s.post r).suspended = s.suspended ∧ (s.post r).test = s.test ∧ (s.post r).jobs = s.jobs ∧
    (s.post r).nextSequence = s.nextSequence ∧ (s.post r).thermal = s.thermal ∧ (s.post r).restarting = s.restarting ∧
    (s.post r).draws = s.draws ∧ (s.post r).answer = s.answer ∧ (s.post r).pending = s.pending := by
  unfold State.post
  repeat' split
  all_goals simp

@[simp] theorem State.touch_keeps (a : Issuer) (b : Serial) (c : Generation) (d : Role) :
    (s.touch a b c d).power = s.power ∧ (s.touch a b c d).straps = s.straps ∧ (s.touch a b c d).link = s.link ∧
    (s.touch a b c d).service = s.service ∧ (s.touch a b c d).mask = s.mask ∧ (s.touch a b c d).settings = s.settings ∧
    (s.touch a b c d).clock = s.clock ∧ (s.touch a b c d).slots = s.slots ∧ (s.touch a b c d).transport = s.transport ∧
    (s.touch a b c d).zeroizedMark = s.zeroizedMark ∧ (s.touch a b c d).stager = s.stager ∧
    (s.touch a b c d).rollovers = s.rollovers ∧ (s.touch a b c d).places = s.places ∧ (s.touch a b c d).u0 = s.u0 ∧
    (s.touch a b c d).u1 = s.u1 ∧ (s.touch a b c d).suspended = s.suspended ∧ (s.touch a b c d).test = s.test ∧
    (s.touch a b c d).jobs = s.jobs ∧ (s.touch a b c d).nextSequence = s.nextSequence ∧
    (s.touch a b c d).thermal = s.thermal ∧ (s.touch a b c d).queue = s.queue ∧
    (s.touch a b c d).restarting = s.restarting ∧ (s.touch a b c d).draws = s.draws ∧ (s.touch a b c d).answer = s.answer ∧
    (s.touch a b c d).pending = s.pending := by
  simp [State.touch]

@[simp] theorem State.pinEntry_keeps (h : Handle) (a : Issuer) (b : Serial) (c : Generation) (d : Role) :
    (s.pinEntry h a b c d).power = s.power ∧ (s.pinEntry h a b c d).straps = s.straps ∧
    (s.pinEntry h a b c d).link = s.link ∧ (s.pinEntry h a b c d).service = s.service ∧
    (s.pinEntry h a b c d).mask = s.mask ∧ (s.pinEntry h a b c d).settings = s.settings ∧
    (s.pinEntry h a b c d).clock = s.clock ∧ (s.pinEntry h a b c d).slots = s.slots ∧
    (s.pinEntry h a b c d).transport = s.transport ∧ (s.pinEntry h a b c d).zeroizedMark = s.zeroizedMark ∧
    (s.pinEntry h a b c d).stager = s.stager ∧ (s.pinEntry h a b c d).rollovers = s.rollovers ∧
    (s.pinEntry h a b c d).places = s.places ∧ (s.pinEntry h a b c d).u0 = s.u0 ∧ (s.pinEntry h a b c d).u1 = s.u1 ∧
    (s.pinEntry h a b c d).suspended = s.suspended ∧ (s.pinEntry h a b c d).test = s.test ∧
    (s.pinEntry h a b c d).jobs = s.jobs ∧ (s.pinEntry h a b c d).nextSequence = s.nextSequence ∧
    (s.pinEntry h a b c d).thermal = s.thermal ∧ (s.pinEntry h a b c d).queue = s.queue ∧
    (s.pinEntry h a b c d).restarting = s.restarting ∧ (s.pinEntry h a b c d).draws = s.draws ∧
    (s.pinEntry h a b c d).answer = s.answer ∧ (s.pinEntry h a b c d).pending = s.pending := by
  simp [State.pinEntry]

@[simp] theorem State.releasePin_keeps (h : Handle) (r : Role) :
    (s.releasePin h r).power = s.power ∧ (s.releasePin h r).straps = s.straps ∧ (s.releasePin h r).link = s.link ∧
    (s.releasePin h r).service = s.service ∧ (s.releasePin h r).mask = s.mask ∧ (s.releasePin h r).settings = s.settings ∧
    (s.releasePin h r).clock = s.clock ∧ (s.releasePin h r).slots = s.slots ∧ (s.releasePin h r).transport = s.transport ∧
    (s.releasePin h r).zeroizedMark = s.zeroizedMark ∧ (s.releasePin h r).stager = s.stager ∧
    (s.releasePin h r).rollovers = s.rollovers ∧ (s.releasePin h r).places = s.places ∧ (s.releasePin h r).u0 = s.u0 ∧
    (s.releasePin h r).u1 = s.u1 ∧ (s.releasePin h r).suspended = s.suspended ∧ (s.releasePin h r).test = s.test ∧
    (s.releasePin h r).jobs = s.jobs ∧ (s.releasePin h r).nextSequence = s.nextSequence ∧
    (s.releasePin h r).thermal = s.thermal ∧ (s.releasePin h r).queue = s.queue ∧
    (s.releasePin h r).restarting = s.restarting ∧ (s.releasePin h r).draws = s.draws ∧
    (s.releasePin h r).answer = s.answer ∧ (s.releasePin h r).pending = s.pending := by
  simp [State.releasePin]

@[simp] theorem State.insert_keeps (a : Issuer) (b : Serial) (c : Generation) (d : Role) (i : Nat) (e : Epoch) (p : Option Handle) (k : Option Key) :
    (s.insert a b c d i e p k).power = s.power ∧ (s.insert a b c d i e p k).straps = s.straps ∧
    (s.insert a b c d i e p k).link = s.link ∧ (s.insert a b c d i e p k).service = s.service ∧
    (s.insert a b c d i e p k).mask = s.mask ∧ (s.insert a b c d i e p k).settings = s.settings ∧
    (s.insert a b c d i e p k).clock = s.clock ∧ (s.insert a b c d i e p k).slots = s.slots ∧
    (s.insert a b c d i e p k).transport = s.transport ∧ (s.insert a b c d i e p k).zeroizedMark = s.zeroizedMark ∧
    (s.insert a b c d i e p k).stager = s.stager ∧ (s.insert a b c d i e p k).rollovers = s.rollovers ∧
    (s.insert a b c d i e p k).places = s.places ∧ (s.insert a b c d i e p k).u0 = s.u0 ∧
    (s.insert a b c d i e p k).u1 = s.u1 ∧ (s.insert a b c d i e p k).suspended = s.suspended ∧
    (s.insert a b c d i e p k).test = s.test ∧ (s.insert a b c d i e p k).jobs = s.jobs ∧
    (s.insert a b c d i e p k).nextSequence = s.nextSequence ∧ (s.insert a b c d i e p k).thermal = s.thermal ∧
    (s.insert a b c d i e p k).queue = s.queue ∧ (s.insert a b c d i e p k).restarting = s.restarting ∧
    (s.insert a b c d i e p k).draws = s.draws ∧ (s.insert a b c d i e p k).answer = s.answer ∧
    (s.insert a b c d i e p k).pending = s.pending := by
  unfold State.insert
  repeat' split
  all_goals simp

@[simp] theorem State.cancelJobs_keeps (p : Job → Bool) :
    (s.cancelJobs p).power = s.power ∧ (s.cancelJobs p).straps = s.straps ∧ (s.cancelJobs p).link = s.link ∧
    (s.cancelJobs p).service = s.service ∧ (s.cancelJobs p).mask = s.mask ∧ (s.cancelJobs p).settings = s.settings ∧
    (s.cancelJobs p).clock = s.clock ∧ (s.cancelJobs p).slots = s.slots ∧ (s.cancelJobs p).transport = s.transport ∧
    (s.cancelJobs p).zeroizedMark = s.zeroizedMark ∧ (s.cancelJobs p).stager = s.stager ∧
    (s.cancelJobs p).rollovers = s.rollovers ∧ (s.cancelJobs p).cache = s.cache ∧ (s.cancelJobs p).places = s.places ∧
    (s.cancelJobs p).u0 = s.u0 ∧ (s.cancelJobs p).u1 = s.u1 ∧ (s.cancelJobs p).suspended = s.suspended ∧
    (s.cancelJobs p).test = s.test ∧ (s.cancelJobs p).nextSequence = s.nextSequence ∧
    (s.cancelJobs p).thermal = s.thermal ∧ (s.cancelJobs p).queue = s.queue ∧ (s.cancelJobs p).restarting = s.restarting ∧
    (s.cancelJobs p).draws = s.draws ∧ (s.cancelJobs p).answer = s.answer ∧ (s.cancelJobs p).pending = s.pending := by
  simp [State.cancelJobs]

@[simp] theorem State.cancelJobOf_keeps (h : Handle) :
    (s.cancelJobOf h).power = s.power ∧ (s.cancelJobOf h).straps = s.straps ∧ (s.cancelJobOf h).link = s.link ∧
    (s.cancelJobOf h).service = s.service ∧ (s.cancelJobOf h).mask = s.mask ∧ (s.cancelJobOf h).settings = s.settings ∧
    (s.cancelJobOf h).clock = s.clock ∧ (s.cancelJobOf h).slots = s.slots ∧ (s.cancelJobOf h).transport = s.transport ∧
    (s.cancelJobOf h).zeroizedMark = s.zeroizedMark ∧ (s.cancelJobOf h).stager = s.stager ∧
    (s.cancelJobOf h).rollovers = s.rollovers ∧ (s.cancelJobOf h).cache = s.cache ∧ (s.cancelJobOf h).places = s.places ∧
    (s.cancelJobOf h).u0 = s.u0 ∧ (s.cancelJobOf h).u1 = s.u1 ∧ (s.cancelJobOf h).suspended = s.suspended ∧
    (s.cancelJobOf h).test = s.test ∧ (s.cancelJobOf h).nextSequence = s.nextSequence ∧
    (s.cancelJobOf h).thermal = s.thermal ∧ (s.cancelJobOf h).queue = s.queue ∧
    (s.cancelJobOf h).restarting = s.restarting ∧ (s.cancelJobOf h).draws = s.draws ∧ (s.cancelJobOf h).answer = s.answer ∧
    (s.cancelJobOf h).pending = s.pending := by
  simp [State.cancelJobOf]

@[simp] theorem State.place_keeps (w : Work) (o : List Operation) (d : Nat) :
    (s.place w o d).power = s.power ∧ (s.place w o d).straps = s.straps ∧ (s.place w o d).link = s.link ∧
    (s.place w o d).service = s.service ∧ (s.place w o d).mask = s.mask ∧ (s.place w o d).settings = s.settings ∧
    (s.place w o d).clock = s.clock ∧ (s.place w o d).slots = s.slots ∧ (s.place w o d).transport = s.transport ∧
    (s.place w o d).zeroizedMark = s.zeroizedMark ∧ (s.place w o d).stager = s.stager ∧
    (s.place w o d).rollovers = s.rollovers ∧ (s.place w o d).cache = s.cache ∧ (s.place w o d).places = s.places ∧
    (s.place w o d).u0 = s.u0 ∧ (s.place w o d).u1 = s.u1 ∧ (s.place w o d).suspended = s.suspended ∧
    (s.place w o d).test = s.test ∧ (s.place w o d).thermal = s.thermal ∧ (s.place w o d).queue = s.queue ∧
    (s.place w o d).restarting = s.restarting ∧ (s.place w o d).draws = s.draws ∧ (s.place w o d).answer = s.answer ∧
    (s.place w o d).pending = s.pending := by
  simp [State.place]

@[simp] theorem State.setUnit_keeps (n : UnitName) (v : CipherUnit) :
    (s.setUnit n v).power = s.power ∧ (s.setUnit n v).straps = s.straps ∧ (s.setUnit n v).link = s.link ∧
    (s.setUnit n v).service = s.service ∧ (s.setUnit n v).mask = s.mask ∧ (s.setUnit n v).settings = s.settings ∧
    (s.setUnit n v).clock = s.clock ∧ (s.setUnit n v).slots = s.slots ∧ (s.setUnit n v).transport = s.transport ∧
    (s.setUnit n v).zeroizedMark = s.zeroizedMark ∧ (s.setUnit n v).stager = s.stager ∧
    (s.setUnit n v).rollovers = s.rollovers ∧ (s.setUnit n v).cache = s.cache ∧ (s.setUnit n v).places = s.places ∧
    (s.setUnit n v).suspended = s.suspended ∧ (s.setUnit n v).test = s.test ∧ (s.setUnit n v).jobs = s.jobs ∧
    (s.setUnit n v).nextSequence = s.nextSequence ∧ (s.setUnit n v).thermal = s.thermal ∧ (s.setUnit n v).queue = s.queue ∧
    (s.setUnit n v).restarting = s.restarting ∧ (s.setUnit n v).draws = s.draws ∧ (s.setUnit n v).answer = s.answer ∧
    (s.setUnit n v).pending = s.pending := by
  cases n <;> simp [State.setUnit]

@[simp] theorem State.takeNext_keeps (n : UnitName) :
    (s.takeNext n).power = s.power ∧ (s.takeNext n).straps = s.straps ∧ (s.takeNext n).link = s.link ∧
    (s.takeNext n).service = s.service ∧ (s.takeNext n).mask = s.mask ∧ (s.takeNext n).settings = s.settings ∧
    (s.takeNext n).clock = s.clock ∧ (s.takeNext n).slots = s.slots ∧ (s.takeNext n).transport = s.transport ∧
    (s.takeNext n).zeroizedMark = s.zeroizedMark ∧ (s.takeNext n).stager = s.stager ∧
    (s.takeNext n).rollovers = s.rollovers ∧ (s.takeNext n).cache = s.cache ∧ (s.takeNext n).places = s.places ∧
    (s.takeNext n).suspended = s.suspended ∧ (s.takeNext n).test = s.test ∧ (s.takeNext n).nextSequence = s.nextSequence ∧
    (s.takeNext n).thermal = s.thermal ∧ (s.takeNext n).queue = s.queue ∧ (s.takeNext n).restarting = s.restarting ∧
    (s.takeNext n).draws = s.draws ∧ (s.takeNext n).answer = s.answer ∧ (s.takeNext n).pending = s.pending := by
  unfold State.takeNext
  repeat' split
  all_goals simp

@[simp] theorem State.arbitrate_keeps :
    (s.arbitrate).power = s.power ∧ (s.arbitrate).straps = s.straps ∧ (s.arbitrate).link = s.link ∧
    (s.arbitrate).service = s.service ∧ (s.arbitrate).mask = s.mask ∧ (s.arbitrate).settings = s.settings ∧
    (s.arbitrate).clock = s.clock ∧ (s.arbitrate).slots = s.slots ∧ (s.arbitrate).transport = s.transport ∧
    (s.arbitrate).zeroizedMark = s.zeroizedMark ∧ (s.arbitrate).stager = s.stager ∧ (s.arbitrate).rollovers = s.rollovers ∧
    (s.arbitrate).cache = s.cache ∧ (s.arbitrate).places = s.places ∧ (s.arbitrate).suspended = s.suspended ∧
    (s.arbitrate).test = s.test ∧ (s.arbitrate).nextSequence = s.nextSequence ∧ (s.arbitrate).thermal = s.thermal ∧
    (s.arbitrate).queue = s.queue ∧ (s.arbitrate).restarting = s.restarting ∧ (s.arbitrate).draws = s.draws ∧
    (s.arbitrate).answer = s.answer ∧ (s.arbitrate).pending = s.pending := by
  simp [State.arbitrate]

@[simp] theorem State.updateContext_keeps (i : Nat) (f : Context → Context) :
    (s.updateContext i f).power = s.power ∧ (s.updateContext i f).straps = s.straps ∧ (s.updateContext i f).link = s.link ∧
    (s.updateContext i f).service = s.service ∧ (s.updateContext i f).mask = s.mask ∧
    (s.updateContext i f).settings = s.settings ∧ (s.updateContext i f).clock = s.clock ∧
    (s.updateContext i f).slots = s.slots ∧ (s.updateContext i f).transport = s.transport ∧
    (s.updateContext i f).zeroizedMark = s.zeroizedMark ∧ (s.updateContext i f).stager = s.stager ∧
    (s.updateContext i f).rollovers = s.rollovers ∧ (s.updateContext i f).cache = s.cache ∧
    (s.updateContext i f).u0 = s.u0 ∧ (s.updateContext i f).u1 = s.u1 ∧ (s.updateContext i f).suspended = s.suspended ∧
    (s.updateContext i f).test = s.test ∧ (s.updateContext i f).jobs = s.jobs ∧
    (s.updateContext i f).nextSequence = s.nextSequence ∧ (s.updateContext i f).thermal = s.thermal ∧
    (s.updateContext i f).queue = s.queue ∧ (s.updateContext i f).restarting = s.restarting ∧
    (s.updateContext i f).draws = s.draws ∧ (s.updateContext i f).answer = s.answer ∧
    (s.updateContext i f).pending = s.pending := by
  simp [State.updateContext]

@[simp] theorem State.failContext_keeps (i : Nat) (r : FailReason) (b : Bool) :
    (s.failContext i r b).power = s.power ∧ (s.failContext i r b).straps = s.straps ∧ (s.failContext i r b).link = s.link ∧
    (s.failContext i r b).service = s.service ∧ (s.failContext i r b).mask = s.mask ∧
    (s.failContext i r b).settings = s.settings ∧ (s.failContext i r b).clock = s.clock ∧
    (s.failContext i r b).slots = s.slots ∧ (s.failContext i r b).transport = s.transport ∧
    (s.failContext i r b).zeroizedMark = s.zeroizedMark ∧ (s.failContext i r b).stager = s.stager ∧
    (s.failContext i r b).rollovers = s.rollovers ∧ (s.failContext i r b).u0 = s.u0 ∧ (s.failContext i r b).u1 = s.u1 ∧
    (s.failContext i r b).suspended = s.suspended ∧ (s.failContext i r b).test = s.test ∧
    (s.failContext i r b).nextSequence = s.nextSequence ∧ (s.failContext i r b).thermal = s.thermal ∧
    (s.failContext i r b).restarting = s.restarting ∧ (s.failContext i r b).draws = s.draws ∧
    (s.failContext i r b).answer = s.answer ∧ (s.failContext i r b).pending = s.pending := by
  unfold State.failContext
  repeat' split
  all_goals simp

@[simp] theorem State.failEach_keeps (l : List Nat) (r : FailReason) :
    (s.failEach l r).power = s.power ∧ (s.failEach l r).straps = s.straps ∧ (s.failEach l r).link = s.link ∧
    (s.failEach l r).service = s.service ∧ (s.failEach l r).mask = s.mask ∧ (s.failEach l r).settings = s.settings ∧
    (s.failEach l r).clock = s.clock ∧ (s.failEach l r).slots = s.slots ∧ (s.failEach l r).transport = s.transport ∧
    (s.failEach l r).zeroizedMark = s.zeroizedMark ∧ (s.failEach l r).stager = s.stager ∧
    (s.failEach l r).rollovers = s.rollovers ∧ (s.failEach l r).u0 = s.u0 ∧ (s.failEach l r).u1 = s.u1 ∧
    (s.failEach l r).suspended = s.suspended ∧ (s.failEach l r).test = s.test ∧
    (s.failEach l r).nextSequence = s.nextSequence ∧ (s.failEach l r).thermal = s.thermal ∧
    (s.failEach l r).restarting = s.restarting ∧ (s.failEach l r).draws = s.draws ∧ (s.failEach l r).answer = s.answer ∧
    (s.failEach l r).pending = s.pending := by
  induction l generalizing s with
  | nil => simp [State.failEach]
  | cons i l ih =>
    have h := ih (s.failContext i r true)
    simp only [State.failEach, List.foldl_cons] at h ⊢
    simpa using h

@[simp] theorem State.freeContext_keeps (i : Nat) (c : Context) :
    (s.freeContext i c).power = s.power ∧ (s.freeContext i c).straps = s.straps ∧ (s.freeContext i c).link = s.link ∧
    (s.freeContext i c).service = s.service ∧ (s.freeContext i c).mask = s.mask ∧
    (s.freeContext i c).settings = s.settings ∧ (s.freeContext i c).clock = s.clock ∧
    (s.freeContext i c).transport = s.transport ∧ (s.freeContext i c).zeroizedMark = s.zeroizedMark ∧
    (s.freeContext i c).stager = s.stager ∧ (s.freeContext i c).rollovers = s.rollovers ∧ (s.freeContext i c).u0 = s.u0 ∧
    (s.freeContext i c).u1 = s.u1 ∧ (s.freeContext i c).suspended = s.suspended ∧ (s.freeContext i c).test = s.test ∧
    (s.freeContext i c).nextSequence = s.nextSequence ∧ (s.freeContext i c).thermal = s.thermal ∧
    (s.freeContext i c).queue = s.queue ∧ (s.freeContext i c).restarting = s.restarting ∧
    (s.freeContext i c).draws = s.draws ∧ (s.freeContext i c).answer = s.answer ∧ (s.freeContext i c).pending = s.pending := by
  simp [State.freeContext]

@[simp] theorem State.postAbandoned_keeps (l : List Rollover) :
    (s.postAbandoned l).power = s.power ∧ (s.postAbandoned l).straps = s.straps ∧ (s.postAbandoned l).link = s.link ∧
    (s.postAbandoned l).service = s.service ∧ (s.postAbandoned l).mask = s.mask ∧
    (s.postAbandoned l).settings = s.settings ∧ (s.postAbandoned l).clock = s.clock ∧ (s.postAbandoned l).slots = s.slots ∧
    (s.postAbandoned l).transport = s.transport ∧ (s.postAbandoned l).zeroizedMark = s.zeroizedMark ∧
    (s.postAbandoned l).stager = s.stager ∧ (s.postAbandoned l).rollovers = s.rollovers ∧
    (s.postAbandoned l).cache = s.cache ∧ (s.postAbandoned l).places = s.places ∧ (s.postAbandoned l).u0 = s.u0 ∧
    (s.postAbandoned l).u1 = s.u1 ∧ (s.postAbandoned l).suspended = s.suspended ∧ (s.postAbandoned l).test = s.test ∧
    (s.postAbandoned l).jobs = s.jobs ∧ (s.postAbandoned l).nextSequence = s.nextSequence ∧
    (s.postAbandoned l).thermal = s.thermal ∧ (s.postAbandoned l).restarting = s.restarting ∧
    (s.postAbandoned l).draws = s.draws ∧ (s.postAbandoned l).answer = s.answer ∧ (s.postAbandoned l).pending = s.pending := by
  induction l generalizing s with
  | nil => simp [State.postAbandoned]
  | cons r l ih =>
    have h := ih (s.post (.rolloverPhase r.issuer r.a r.b r.reached .abandoned 0))
    simp only [State.postAbandoned, List.foldl_cons] at h ⊢
    simpa using h

@[simp] theorem State.withdraw_keeps (l : List Nat) :
    (s.withdraw l).power = s.power ∧ (s.withdraw l).straps = s.straps ∧ (s.withdraw l).link = s.link ∧
    (s.withdraw l).service = s.service ∧ (s.withdraw l).mask = s.mask ∧ (s.withdraw l).settings = s.settings ∧
    (s.withdraw l).clock = s.clock ∧ (s.withdraw l).transport = s.transport ∧
    (s.withdraw l).zeroizedMark = s.zeroizedMark ∧ (s.withdraw l).stager = s.stager ∧ (s.withdraw l).u0 = s.u0 ∧
    (s.withdraw l).u1 = s.u1 ∧ (s.withdraw l).suspended = s.suspended ∧ (s.withdraw l).test = s.test ∧
    (s.withdraw l).nextSequence = s.nextSequence ∧ (s.withdraw l).thermal = s.thermal ∧
    (s.withdraw l).restarting = s.restarting ∧ (s.withdraw l).draws = s.draws ∧ (s.withdraw l).answer = s.answer ∧
    (s.withdraw l).pending = s.pending := by
  simp [State.withdraw]

@[simp] theorem State.answered_keeps (i : Instr) (a : Answer) :
    (s.answered i a).power = s.power ∧ (s.answered i a).straps = s.straps ∧ (s.answered i a).service = s.service ∧
    (s.answered i a).mask = s.mask ∧ (s.answered i a).settings = s.settings ∧ (s.answered i a).clock = s.clock ∧
    (s.answered i a).slots = s.slots ∧ (s.answered i a).transport = s.transport ∧
    (s.answered i a).zeroizedMark = s.zeroizedMark ∧ (s.answered i a).stager = s.stager ∧
    (s.answered i a).rollovers = s.rollovers ∧ (s.answered i a).cache = s.cache ∧ (s.answered i a).places = s.places ∧
    (s.answered i a).u0 = s.u0 ∧ (s.answered i a).u1 = s.u1 ∧ (s.answered i a).suspended = s.suspended ∧
    (s.answered i a).test = s.test ∧ (s.answered i a).jobs = s.jobs ∧ (s.answered i a).nextSequence = s.nextSequence ∧
    (s.answered i a).thermal = s.thermal ∧ (s.answered i a).queue = s.queue ∧ (s.answered i a).restarting = s.restarting ∧
    (s.answered i a).draws = s.draws ∧ (s.answered i a).pending = s.pending := by
  simp [State.answered]

@[simp] theorem State.beginTest_keeps (o : TestOrigin) :
    (s.beginTest o).power = s.power ∧ (s.beginTest o).straps = s.straps ∧ (s.beginTest o).link = s.link ∧
    (s.beginTest o).service = s.service ∧ (s.beginTest o).mask = s.mask ∧ (s.beginTest o).settings = s.settings ∧
    (s.beginTest o).clock = s.clock ∧ (s.beginTest o).slots = s.slots ∧ (s.beginTest o).transport = s.transport ∧
    (s.beginTest o).zeroizedMark = s.zeroizedMark ∧ (s.beginTest o).stager = s.stager ∧
    (s.beginTest o).rollovers = s.rollovers ∧ (s.beginTest o).cache = s.cache ∧ (s.beginTest o).places = s.places ∧
    (s.beginTest o).suspended = s.suspended ∧ (s.beginTest o).jobs = s.jobs ∧
    (s.beginTest o).nextSequence = s.nextSequence ∧ (s.beginTest o).thermal = s.thermal ∧ (s.beginTest o).queue = s.queue ∧
    (s.beginTest o).restarting = s.restarting ∧ (s.beginTest o).draws = s.draws ∧ (s.beginTest o).answer = s.answer ∧
    (s.beginTest o).pending = s.pending := by
  simp [State.beginTest]

@[simp] theorem State.touchAndPin_keeps (b : Bool) (h : Handle) (i : Issuer) (c : Serial) (g : Generation) (r : Role) :
    (s.touchAndPin b h i c g r).power = s.power ∧ (s.touchAndPin b h i c g r).straps = s.straps ∧
    (s.touchAndPin b h i c g r).link = s.link ∧ (s.touchAndPin b h i c g r).service = s.service ∧
    (s.touchAndPin b h i c g r).mask = s.mask ∧ (s.touchAndPin b h i c g r).settings = s.settings ∧
    (s.touchAndPin b h i c g r).clock = s.clock ∧ (s.touchAndPin b h i c g r).slots = s.slots ∧
    (s.touchAndPin b h i c g r).transport = s.transport ∧ (s.touchAndPin b h i c g r).zeroizedMark = s.zeroizedMark ∧
    (s.touchAndPin b h i c g r).stager = s.stager ∧ (s.touchAndPin b h i c g r).rollovers = s.rollovers ∧
    (s.touchAndPin b h i c g r).places = s.places ∧ (s.touchAndPin b h i c g r).u0 = s.u0 ∧
    (s.touchAndPin b h i c g r).u1 = s.u1 ∧ (s.touchAndPin b h i c g r).suspended = s.suspended ∧
    (s.touchAndPin b h i c g r).test = s.test ∧ (s.touchAndPin b h i c g r).jobs = s.jobs ∧
    (s.touchAndPin b h i c g r).nextSequence = s.nextSequence ∧ (s.touchAndPin b h i c g r).thermal = s.thermal ∧
    (s.touchAndPin b h i c g r).queue = s.queue ∧ (s.touchAndPin b h i c g r).restarting = s.restarting ∧
    (s.touchAndPin b h i c g r).draws = s.draws ∧ (s.touchAndPin b h i c g r).answer = s.answer ∧
    (s.touchAndPin b h i c g r).pending = s.pending := by
  unfold State.touchAndPin
  repeat' split
  all_goals simp

@[simp] theorem State.prefetchLookups_keeps (i : Issuer) (c : Serial) (g h : Generation) :
    (s.prefetchLookups i c g h).power = s.power ∧ (s.prefetchLookups i c g h).straps = s.straps ∧
    (s.prefetchLookups i c g h).link = s.link ∧ (s.prefetchLookups i c g h).service = s.service ∧
    (s.prefetchLookups i c g h).mask = s.mask ∧ (s.prefetchLookups i c g h).settings = s.settings ∧
    (s.prefetchLookups i c g h).clock = s.clock ∧ (s.prefetchLookups i c g h).slots = s.slots ∧
    (s.prefetchLookups i c g h).transport = s.transport ∧ (s.prefetchLookups i c g h).zeroizedMark = s.zeroizedMark ∧
    (s.prefetchLookups i c g h).stager = s.stager ∧ (s.prefetchLookups i c g h).rollovers = s.rollovers ∧
    (s.prefetchLookups i c g h).places = s.places ∧ (s.prefetchLookups i c g h).u0 = s.u0 ∧
    (s.prefetchLookups i c g h).u1 = s.u1 ∧ (s.prefetchLookups i c g h).suspended = s.suspended ∧
    (s.prefetchLookups i c g h).test = s.test ∧ (s.prefetchLookups i c g h).jobs = s.jobs ∧
    (s.prefetchLookups i c g h).nextSequence = s.nextSequence ∧ (s.prefetchLookups i c g h).thermal = s.thermal ∧
    (s.prefetchLookups i c g h).queue = s.queue ∧ (s.prefetchLookups i c g h).restarting = s.restarting ∧
    (s.prefetchLookups i c g h).draws = s.draws ∧ (s.prefetchLookups i c g h).answer = s.answer ∧
    (s.prefetchLookups i c g h).pending = s.pending := by
  simp [State.prefetchLookups]

@[simp] theorem State.takeOpen_keeps (c : Context) (p : OpenPlan) :
    (s.takeOpen c p).power = s.power ∧ (s.takeOpen c p).straps = s.straps ∧ (s.takeOpen c p).link = s.link ∧
    (s.takeOpen c p).service = s.service ∧ (s.takeOpen c p).mask = s.mask ∧ (s.takeOpen c p).settings = s.settings ∧
    (s.takeOpen c p).clock = s.clock ∧ (s.takeOpen c p).transport = s.transport ∧
    (s.takeOpen c p).zeroizedMark = s.zeroizedMark ∧ (s.takeOpen c p).stager = s.stager ∧
    (s.takeOpen c p).rollovers = s.rollovers ∧ (s.takeOpen c p).suspended = s.suspended ∧ (s.takeOpen c p).test = s.test ∧
    (s.takeOpen c p).thermal = s.thermal ∧ (s.takeOpen c p).queue = s.queue ∧ (s.takeOpen c p).restarting = s.restarting ∧
    (s.takeOpen c p).answer = s.answer ∧ (s.takeOpen c p).pending = s.pending := by
  simp [State.takeOpen]

@[simp] theorem State.takeSeal_keeps (i : Nat) (c : Context) (r : SealRecord) :
    (s.takeSeal i c r).power = s.power ∧ (s.takeSeal i c r).straps = s.straps ∧ (s.takeSeal i c r).link = s.link ∧
    (s.takeSeal i c r).service = s.service ∧ (s.takeSeal i c r).mask = s.mask ∧ (s.takeSeal i c r).settings = s.settings ∧
    (s.takeSeal i c r).clock = s.clock ∧ (s.takeSeal i c r).slots = s.slots ∧ (s.takeSeal i c r).transport = s.transport ∧
    (s.takeSeal i c r).zeroizedMark = s.zeroizedMark ∧ (s.takeSeal i c r).stager = s.stager ∧
    (s.takeSeal i c r).rollovers = s.rollovers ∧ (s.takeSeal i c r).suspended = s.suspended ∧
    (s.takeSeal i c r).test = s.test ∧ (s.takeSeal i c r).thermal = s.thermal ∧ (s.takeSeal i c r).queue = s.queue ∧
    (s.takeSeal i c r).restarting = s.restarting ∧ (s.takeSeal i c r).draws = s.draws ∧
    (s.takeSeal i c r).answer = s.answer ∧ (s.takeSeal i c r).pending = s.pending := by
  simp [State.takeSeal]

@[simp] theorem State.applyPhase_keeps (r : Rollover) :
    (s.applyPhase r).power = s.power ∧ (s.applyPhase r).straps = s.straps ∧ (s.applyPhase r).link = s.link ∧
    (s.applyPhase r).service = s.service ∧ (s.applyPhase r).mask = s.mask ∧ (s.applyPhase r).settings = s.settings ∧
    (s.applyPhase r).clock = s.clock ∧ (s.applyPhase r).transport = s.transport ∧
    (s.applyPhase r).zeroizedMark = s.zeroizedMark ∧ (s.applyPhase r).stager = s.stager ∧ (s.applyPhase r).u0 = s.u0 ∧
    (s.applyPhase r).u1 = s.u1 ∧ (s.applyPhase r).suspended = s.suspended ∧ (s.applyPhase r).test = s.test ∧
    (s.applyPhase r).nextSequence = s.nextSequence ∧ (s.applyPhase r).thermal = s.thermal ∧
    (s.applyPhase r).restarting = s.restarting ∧ (s.applyPhase r).draws = s.draws ∧ (s.applyPhase r).answer = s.answer ∧
    (s.applyPhase r).pending = s.pending := by
  unfold State.applyPhase
  repeat' split
  all_goals simp

@[simp] theorem State.completeCommit_keeps (l : Load) (k : List Key) (b : List Bool) :
    (s.completeCommit l k b).power = s.power ∧ (s.completeCommit l k b).straps = s.straps ∧
    (s.completeCommit l k b).link = s.link ∧ (s.completeCommit l k b).service = s.service ∧
    (s.completeCommit l k b).mask = s.mask ∧ (s.completeCommit l k b).settings = s.settings ∧
    (s.completeCommit l k b).clock = s.clock ∧ (s.completeCommit l k b).transport = s.transport ∧
    (s.completeCommit l k b).zeroizedMark = s.zeroizedMark ∧ (s.completeCommit l k b).rollovers = s.rollovers ∧
    (s.completeCommit l k b).cache = s.cache ∧ (s.completeCommit l k b).places = s.places ∧
    (s.completeCommit l k b).u0 = s.u0 ∧ (s.completeCommit l k b).u1 = s.u1 ∧
    (s.completeCommit l k b).suspended = s.suspended ∧ (s.completeCommit l k b).test = s.test ∧
    (s.completeCommit l k b).jobs = s.jobs ∧ (s.completeCommit l k b).nextSequence = s.nextSequence ∧
    (s.completeCommit l k b).thermal = s.thermal ∧ (s.completeCommit l k b).restarting = s.restarting ∧
    (s.completeCommit l k b).draws = s.draws ∧ (s.completeCommit l k b).answer = s.answer ∧
    (s.completeCommit l k b).pending = s.pending := by
  unfold State.completeCommit
  repeat' split
  all_goals simp

@[simp] theorem State.endKeyset_keeps (w : Work) :
    (s.endKeyset w).power = s.power ∧ (s.endKeyset w).straps = s.straps ∧ (s.endKeyset w).link = s.link ∧
    (s.endKeyset w).service = s.service ∧ (s.endKeyset w).mask = s.mask ∧ (s.endKeyset w).settings = s.settings ∧
    (s.endKeyset w).clock = s.clock ∧ (s.endKeyset w).transport = s.transport ∧
    (s.endKeyset w).zeroizedMark = s.zeroizedMark ∧ (s.endKeyset w).rollovers = s.rollovers ∧
    (s.endKeyset w).cache = s.cache ∧ (s.endKeyset w).places = s.places ∧ (s.endKeyset w).u0 = s.u0 ∧
    (s.endKeyset w).u1 = s.u1 ∧ (s.endKeyset w).suspended = s.suspended ∧ (s.endKeyset w).test = s.test ∧
    (s.endKeyset w).jobs = s.jobs ∧ (s.endKeyset w).nextSequence = s.nextSequence ∧ (s.endKeyset w).thermal = s.thermal ∧
    (s.endKeyset w).restarting = s.restarting ∧ (s.endKeyset w).draws = s.draws ∧ (s.endKeyset w).answer = s.answer ∧
    (s.endKeyset w).pending = s.pending := by
  unfold State.endKeyset
  repeat' split
  all_goals simp

@[simp] theorem State.laneDerivation_keeps (h : Handle) (o : Operation) (k : Option Key) :
    (s.laneDerivation h o k).power = s.power ∧ (s.laneDerivation h o k).straps = s.straps ∧
    (s.laneDerivation h o k).link = s.link ∧ (s.laneDerivation h o k).service = s.service ∧
    (s.laneDerivation h o k).mask = s.mask ∧ (s.laneDerivation h o k).settings = s.settings ∧
    (s.laneDerivation h o k).clock = s.clock ∧ (s.laneDerivation h o k).slots = s.slots ∧
    (s.laneDerivation h o k).transport = s.transport ∧ (s.laneDerivation h o k).zeroizedMark = s.zeroizedMark ∧
    (s.laneDerivation h o k).stager = s.stager ∧ (s.laneDerivation h o k).rollovers = s.rollovers ∧
    (s.laneDerivation h o k).u0 = s.u0 ∧ (s.laneDerivation h o k).u1 = s.u1 ∧
    (s.laneDerivation h o k).suspended = s.suspended ∧ (s.laneDerivation h o k).test = s.test ∧
    (s.laneDerivation h o k).jobs = s.jobs ∧ (s.laneDerivation h o k).nextSequence = s.nextSequence ∧
    (s.laneDerivation h o k).thermal = s.thermal ∧ (s.laneDerivation h o k).queue = s.queue ∧
    (s.laneDerivation h o k).restarting = s.restarting ∧ (s.laneDerivation h o k).draws = s.draws ∧
    (s.laneDerivation h o k).answer = s.answer ∧ (s.laneDerivation h o k).pending = s.pending := by
  unfold State.laneDerivation State.forOwner
  dsimp only
  repeat' split
  all_goals simp

@[simp] theorem State.finishProof_keeps (h : Handle) :
    (s.finishProof h).power = s.power ∧ (s.finishProof h).straps = s.straps ∧ (s.finishProof h).link = s.link ∧
    (s.finishProof h).service = s.service ∧ (s.finishProof h).mask = s.mask ∧ (s.finishProof h).settings = s.settings ∧
    (s.finishProof h).clock = s.clock ∧ (s.finishProof h).slots = s.slots ∧ (s.finishProof h).transport = s.transport ∧
    (s.finishProof h).zeroizedMark = s.zeroizedMark ∧ (s.finishProof h).stager = s.stager ∧
    (s.finishProof h).rollovers = s.rollovers ∧ (s.finishProof h).cache = s.cache ∧ (s.finishProof h).u0 = s.u0 ∧
    (s.finishProof h).u1 = s.u1 ∧ (s.finishProof h).suspended = s.suspended ∧ (s.finishProof h).test = s.test ∧
    (s.finishProof h).jobs = s.jobs ∧ (s.finishProof h).nextSequence = s.nextSequence ∧
    (s.finishProof h).thermal = s.thermal ∧ (s.finishProof h).restarting = s.restarting ∧
    (s.finishProof h).draws = s.draws ∧ (s.finishProof h).answer = s.answer ∧ (s.finishProof h).pending = s.pending := by
  unfold State.finishProof State.forOwner
  dsimp only
  repeat' split
  all_goals simp

@[simp] theorem State.finishTagProof_keeps (h : Handle) (p : Half) :
    (s.finishTagProof h p).power = s.power ∧ (s.finishTagProof h p).straps = s.straps ∧
    (s.finishTagProof h p).link = s.link ∧ (s.finishTagProof h p).service = s.service ∧
    (s.finishTagProof h p).mask = s.mask ∧ (s.finishTagProof h p).settings = s.settings ∧
    (s.finishTagProof h p).clock = s.clock ∧ (s.finishTagProof h p).slots = s.slots ∧
    (s.finishTagProof h p).transport = s.transport ∧ (s.finishTagProof h p).zeroizedMark = s.zeroizedMark ∧
    (s.finishTagProof h p).stager = s.stager ∧ (s.finishTagProof h p).rollovers = s.rollovers ∧
    (s.finishTagProof h p).u0 = s.u0 ∧ (s.finishTagProof h p).u1 = s.u1 ∧ (s.finishTagProof h p).suspended = s.suspended ∧
    (s.finishTagProof h p).test = s.test ∧ (s.finishTagProof h p).nextSequence = s.nextSequence ∧
    (s.finishTagProof h p).thermal = s.thermal ∧ (s.finishTagProof h p).restarting = s.restarting ∧
    (s.finishTagProof h p).draws = s.draws ∧ (s.finishTagProof h p).answer = s.answer ∧
    (s.finishTagProof h p).pending = s.pending := by
  unfold State.finishTagProof State.forOwner
  dsimp only
  repeat' split
  all_goals simp

@[simp] theorem State.finishSealFirst_keeps (h : Handle) :
    (s.finishSealFirst h).power = s.power ∧ (s.finishSealFirst h).straps = s.straps ∧ (s.finishSealFirst h).link = s.link ∧
    (s.finishSealFirst h).service = s.service ∧ (s.finishSealFirst h).mask = s.mask ∧
    (s.finishSealFirst h).settings = s.settings ∧ (s.finishSealFirst h).clock = s.clock ∧
    (s.finishSealFirst h).slots = s.slots ∧ (s.finishSealFirst h).transport = s.transport ∧
    (s.finishSealFirst h).zeroizedMark = s.zeroizedMark ∧ (s.finishSealFirst h).stager = s.stager ∧
    (s.finishSealFirst h).rollovers = s.rollovers ∧ (s.finishSealFirst h).cache = s.cache ∧
    (s.finishSealFirst h).u0 = s.u0 ∧ (s.finishSealFirst h).u1 = s.u1 ∧ (s.finishSealFirst h).suspended = s.suspended ∧
    (s.finishSealFirst h).test = s.test ∧ (s.finishSealFirst h).jobs = s.jobs ∧
    (s.finishSealFirst h).nextSequence = s.nextSequence ∧ (s.finishSealFirst h).thermal = s.thermal ∧
    (s.finishSealFirst h).queue = s.queue ∧ (s.finishSealFirst h).restarting = s.restarting ∧
    (s.finishSealFirst h).draws = s.draws ∧ (s.finishSealFirst h).answer = s.answer ∧
    (s.finishSealFirst h).pending = s.pending := by
  unfold State.finishSealFirst State.forOwner
  split <;> simp

@[simp] theorem State.finishSeal_keeps (h : Handle) (r : SealRecord) (f : Option Block) :
    (s.finishSeal h r f).power = s.power ∧ (s.finishSeal h r f).straps = s.straps ∧ (s.finishSeal h r f).link = s.link ∧
    (s.finishSeal h r f).service = s.service ∧ (s.finishSeal h r f).mask = s.mask ∧
    (s.finishSeal h r f).settings = s.settings ∧ (s.finishSeal h r f).clock = s.clock ∧
    (s.finishSeal h r f).slots = s.slots ∧ (s.finishSeal h r f).transport = s.transport ∧
    (s.finishSeal h r f).zeroizedMark = s.zeroizedMark ∧ (s.finishSeal h r f).stager = s.stager ∧
    (s.finishSeal h r f).rollovers = s.rollovers ∧ (s.finishSeal h r f).u0 = s.u0 ∧ (s.finishSeal h r f).u1 = s.u1 ∧
    (s.finishSeal h r f).suspended = s.suspended ∧ (s.finishSeal h r f).test = s.test ∧
    (s.finishSeal h r f).jobs = s.jobs ∧ (s.finishSeal h r f).nextSequence = s.nextSequence ∧
    (s.finishSeal h r f).thermal = s.thermal ∧ (s.finishSeal h r f).restarting = s.restarting ∧
    (s.finishSeal h r f).draws = s.draws ∧ (s.finishSeal h r f).answer = s.answer ∧ (s.finishSeal h r f).pending = s.pending := by
  unfold State.finishSeal State.forOwner
  dsimp only
  repeat' split
  all_goals simp

@[simp] theorem State.prefetchDerivation_keeps (i : Issuer) (c : Serial) (o : Operation) (k : Option Key) :
    (s.prefetchDerivation i c o k).power = s.power ∧ (s.prefetchDerivation i c o k).straps = s.straps ∧
    (s.prefetchDerivation i c o k).link = s.link ∧ (s.prefetchDerivation i c o k).service = s.service ∧
    (s.prefetchDerivation i c o k).mask = s.mask ∧ (s.prefetchDerivation i c o k).settings = s.settings ∧
    (s.prefetchDerivation i c o k).clock = s.clock ∧ (s.prefetchDerivation i c o k).slots = s.slots ∧
    (s.prefetchDerivation i c o k).transport = s.transport ∧ (s.prefetchDerivation i c o k).zeroizedMark = s.zeroizedMark ∧
    (s.prefetchDerivation i c o k).stager = s.stager ∧ (s.prefetchDerivation i c o k).rollovers = s.rollovers ∧
    (s.prefetchDerivation i c o k).places = s.places ∧ (s.prefetchDerivation i c o k).u0 = s.u0 ∧
    (s.prefetchDerivation i c o k).u1 = s.u1 ∧ (s.prefetchDerivation i c o k).suspended = s.suspended ∧
    (s.prefetchDerivation i c o k).test = s.test ∧ (s.prefetchDerivation i c o k).jobs = s.jobs ∧
    (s.prefetchDerivation i c o k).nextSequence = s.nextSequence ∧ (s.prefetchDerivation i c o k).thermal = s.thermal ∧
    (s.prefetchDerivation i c o k).queue = s.queue ∧ (s.prefetchDerivation i c o k).restarting = s.restarting ∧
    (s.prefetchDerivation i c o k).draws = s.draws ∧ (s.prefetchDerivation i c o k).answer = s.answer ∧
    (s.prefetchDerivation i c o k).pending = s.pending := by
  unfold State.prefetchDerivation
  repeat' split
  all_goals simp

@[simp] theorem State.handOver_keeps (w : Work) (o : Operation) (k : Option Key) :
    (s.handOver w o k).power = s.power ∧ (s.handOver w o k).straps = s.straps ∧ (s.handOver w o k).link = s.link ∧
    (s.handOver w o k).service = s.service ∧ (s.handOver w o k).mask = s.mask ∧ (s.handOver w o k).settings = s.settings ∧
    (s.handOver w o k).clock = s.clock ∧ (s.handOver w o k).slots = s.slots ∧ (s.handOver w o k).transport = s.transport ∧
    (s.handOver w o k).zeroizedMark = s.zeroizedMark ∧ (s.handOver w o k).stager = s.stager ∧
    (s.handOver w o k).rollovers = s.rollovers ∧ (s.handOver w o k).u0 = s.u0 ∧ (s.handOver w o k).u1 = s.u1 ∧
    (s.handOver w o k).suspended = s.suspended ∧ (s.handOver w o k).test = s.test ∧
    (s.handOver w o k).nextSequence = s.nextSequence ∧ (s.handOver w o k).thermal = s.thermal ∧
    (s.handOver w o k).restarting = s.restarting ∧ (s.handOver w o k).draws = s.draws ∧
    (s.handOver w o k).answer = s.answer ∧ (s.handOver w o k).pending = s.pending := by
  unfold State.handOver
  repeat' split
  all_goals simp

@[simp] theorem State.freeUnit_keeps (n : UnitName) :
    (s.freeUnit n).power = s.power ∧ (s.freeUnit n).straps = s.straps ∧ (s.freeUnit n).link = s.link ∧
    (s.freeUnit n).service = s.service ∧ (s.freeUnit n).mask = s.mask ∧ (s.freeUnit n).settings = s.settings ∧
    (s.freeUnit n).clock = s.clock ∧ (s.freeUnit n).slots = s.slots ∧ (s.freeUnit n).transport = s.transport ∧
    (s.freeUnit n).zeroizedMark = s.zeroizedMark ∧ (s.freeUnit n).stager = s.stager ∧
    (s.freeUnit n).rollovers = s.rollovers ∧ (s.freeUnit n).cache = s.cache ∧ (s.freeUnit n).places = s.places ∧
    (s.freeUnit n).suspended = s.suspended ∧ (s.freeUnit n).test = s.test ∧ (s.freeUnit n).jobs = s.jobs ∧
    (s.freeUnit n).nextSequence = s.nextSequence ∧ (s.freeUnit n).thermal = s.thermal ∧ (s.freeUnit n).queue = s.queue ∧
    (s.freeUnit n).restarting = s.restarting ∧ (s.freeUnit n).draws = s.draws ∧ (s.freeUnit n).answer = s.answer ∧
    (s.freeUnit n).pending = s.pending := by
  simp [State.freeUnit]

@[simp] theorem State.lastOperation_keeps (n : UnitName) (j : Job) (o : Operation) (k : Option Key) :
    (s.lastOperation n j o k).power = s.power ∧ (s.lastOperation n j o k).straps = s.straps ∧
    (s.lastOperation n j o k).link = s.link ∧ (s.lastOperation n j o k).service = s.service ∧
    (s.lastOperation n j o k).mask = s.mask ∧ (s.lastOperation n j o k).settings = s.settings ∧
    (s.lastOperation n j o k).clock = s.clock ∧ (s.lastOperation n j o k).transport = s.transport ∧
    (s.lastOperation n j o k).zeroizedMark = s.zeroizedMark ∧ (s.lastOperation n j o k).rollovers = s.rollovers ∧
    (s.lastOperation n j o k).suspended = s.suspended ∧ (s.lastOperation n j o k).test = s.test ∧
    (s.lastOperation n j o k).nextSequence = s.nextSequence ∧ (s.lastOperation n j o k).thermal = s.thermal ∧
    (s.lastOperation n j o k).restarting = s.restarting ∧ (s.lastOperation n j o k).draws = s.draws ∧
    (s.lastOperation n j o k).answer = s.answer ∧ (s.lastOperation n j o k).pending = s.pending := by
  simp [State.lastOperation]

@[simp] theorem State.middleOperation_keeps (n : UnitName) (j : Job) (o : Operation) (l : List Operation) (k : Option Key) :
    (s.middleOperation n j o l k).power = s.power ∧ (s.middleOperation n j o l k).straps = s.straps ∧
    (s.middleOperation n j o l k).link = s.link ∧ (s.middleOperation n j o l k).service = s.service ∧
    (s.middleOperation n j o l k).mask = s.mask ∧ (s.middleOperation n j o l k).settings = s.settings ∧
    (s.middleOperation n j o l k).clock = s.clock ∧ (s.middleOperation n j o l k).slots = s.slots ∧
    (s.middleOperation n j o l k).transport = s.transport ∧ (s.middleOperation n j o l k).zeroizedMark = s.zeroizedMark ∧
    (s.middleOperation n j o l k).stager = s.stager ∧ (s.middleOperation n j o l k).rollovers = s.rollovers ∧
    (s.middleOperation n j o l k).suspended = s.suspended ∧ (s.middleOperation n j o l k).test = s.test ∧
    (s.middleOperation n j o l k).nextSequence = s.nextSequence ∧ (s.middleOperation n j o l k).thermal = s.thermal ∧
    (s.middleOperation n j o l k).restarting = s.restarting ∧ (s.middleOperation n j o l k).draws = s.draws ∧
    (s.middleOperation n j o l k).answer = s.answer ∧ (s.middleOperation n j o l k).pending = s.pending := by
  unfold State.middleOperation
  repeat' split
  all_goals simp

@[simp] theorem State.actOnEngine_keeps (t : ThermalState) :
    (s.actOnEngine t).power = s.power ∧ (s.actOnEngine t).straps = s.straps ∧ (s.actOnEngine t).link = s.link ∧
    (s.actOnEngine t).service = s.service ∧ (s.actOnEngine t).mask = s.mask ∧ (s.actOnEngine t).settings = s.settings ∧
    (s.actOnEngine t).clock = s.clock ∧ (s.actOnEngine t).slots = s.slots ∧ (s.actOnEngine t).transport = s.transport ∧
    (s.actOnEngine t).zeroizedMark = s.zeroizedMark ∧ (s.actOnEngine t).stager = s.stager ∧
    (s.actOnEngine t).rollovers = s.rollovers ∧ (s.actOnEngine t).cache = s.cache ∧ (s.actOnEngine t).places = s.places ∧
    (s.actOnEngine t).test = s.test ∧ (s.actOnEngine t).nextSequence = s.nextSequence ∧
    (s.actOnEngine t).thermal = s.thermal ∧ (s.actOnEngine t).queue = s.queue ∧
    (s.actOnEngine t).restarting = s.restarting ∧ (s.actOnEngine t).draws = s.draws ∧ (s.actOnEngine t).answer = s.answer ∧
    (s.actOnEngine t).pending = s.pending := by
  unfold State.actOnEngine
  repeat' split
  all_goals simp

@[simp] theorem State.operationComplete_keeps (n : UnitName) :
    (State.operationComplete n s).power = s.power ∧ (State.operationComplete n s).straps = s.straps ∧
    (State.operationComplete n s).link = s.link ∧ (State.operationComplete n s).service = s.service ∧
    (State.operationComplete n s).mask = s.mask ∧ (State.operationComplete n s).settings = s.settings ∧
    (State.operationComplete n s).clock = s.clock ∧ (State.operationComplete n s).transport = s.transport ∧
    (State.operationComplete n s).zeroizedMark = s.zeroizedMark ∧ (State.operationComplete n s).rollovers = s.rollovers ∧
    (State.operationComplete n s).suspended = s.suspended ∧ (State.operationComplete n s).test = s.test ∧
    (State.operationComplete n s).nextSequence = s.nextSequence ∧ (State.operationComplete n s).thermal = s.thermal ∧
    (State.operationComplete n s).restarting = s.restarting ∧ (State.operationComplete n s).draws = s.draws ∧
    (State.operationComplete n s).answer = s.answer ∧ (State.operationComplete n s).pending = s.pending := by
  unfold State.operationComplete
  repeat' split
  all_goals simp

@[simp] theorem State.takeReading_keeps (c : Int) :
    (State.takeReading c s).power = s.power ∧ (State.takeReading c s).straps = s.straps ∧
    (State.takeReading c s).link = s.link ∧ (State.takeReading c s).service = s.service ∧
    (State.takeReading c s).mask = s.mask ∧ (State.takeReading c s).settings = s.settings ∧
    (State.takeReading c s).clock = s.clock ∧ (State.takeReading c s).slots = s.slots ∧
    (State.takeReading c s).transport = s.transport ∧ (State.takeReading c s).zeroizedMark = s.zeroizedMark ∧
    (State.takeReading c s).stager = s.stager ∧ (State.takeReading c s).rollovers = s.rollovers ∧
    (State.takeReading c s).cache = s.cache ∧ (State.takeReading c s).places = s.places ∧
    (State.takeReading c s).test = s.test ∧ (State.takeReading c s).nextSequence = s.nextSequence ∧
    (State.takeReading c s).restarting = s.restarting ∧ (State.takeReading c s).draws = s.draws ∧
    (State.takeReading c s).answer = s.answer ∧ (State.takeReading c s).pending = s.pending := by
  unfold State.takeReading
  dsimp only
  repeat' split
  all_goals simp

@[simp] theorem State.endTest_keeps (a b : UnitFault) :
    (State.endTest a b s).power = s.power ∧ (State.endTest a b s).straps = s.straps ∧ (State.endTest a b s).link = s.link ∧
    (State.endTest a b s).mask = s.mask ∧ (State.endTest a b s).settings = s.settings ∧
    (State.endTest a b s).clock = s.clock ∧ (State.endTest a b s).slots = s.slots ∧
    (State.endTest a b s).transport = s.transport ∧ (State.endTest a b s).zeroizedMark = s.zeroizedMark ∧
    (State.endTest a b s).stager = s.stager ∧ (State.endTest a b s).rollovers = s.rollovers ∧
    (State.endTest a b s).cache = s.cache ∧ (State.endTest a b s).places = s.places ∧
    (State.endTest a b s).suspended = s.suspended ∧ (State.endTest a b s).nextSequence = s.nextSequence ∧
    (State.endTest a b s).thermal = s.thermal ∧ (State.endTest a b s).restarting = s.restarting ∧
    (State.endTest a b s).draws = s.draws ∧ (State.endTest a b s).answer = s.answer ∧
    (State.endTest a b s).pending = s.pending := by
  unfold State.endTest
  repeat' split
  all_goals simp

@[simp] theorem State.deadlineEvent_keeps (i : Nat) :
    (State.deadlineEvent i s).power = s.power ∧ (State.deadlineEvent i s).straps = s.straps ∧
    (State.deadlineEvent i s).link = s.link ∧ (State.deadlineEvent i s).service = s.service ∧
    (State.deadlineEvent i s).mask = s.mask ∧ (State.deadlineEvent i s).settings = s.settings ∧
    (State.deadlineEvent i s).clock = s.clock ∧ (State.deadlineEvent i s).slots = s.slots ∧
    (State.deadlineEvent i s).transport = s.transport ∧ (State.deadlineEvent i s).zeroizedMark = s.zeroizedMark ∧
    (State.deadlineEvent i s).stager = s.stager ∧ (State.deadlineEvent i s).rollovers = s.rollovers ∧
    (State.deadlineEvent i s).u0 = s.u0 ∧ (State.deadlineEvent i s).u1 = s.u1 ∧
    (State.deadlineEvent i s).suspended = s.suspended ∧ (State.deadlineEvent i s).test = s.test ∧
    (State.deadlineEvent i s).nextSequence = s.nextSequence ∧ (State.deadlineEvent i s).thermal = s.thermal ∧
    (State.deadlineEvent i s).restarting = s.restarting ∧ (State.deadlineEvent i s).draws = s.draws ∧
    (State.deadlineEvent i s).answer = s.answer ∧ (State.deadlineEvent i s).pending = s.pending := by
  unfold State.deadlineEvent
  repeat' split
  all_goals simp

@[simp] theorem State.lingerEnd_keeps (i : Nat) :
    (State.lingerEnd i s).power = s.power ∧ (State.lingerEnd i s).straps = s.straps ∧ (State.lingerEnd i s).link = s.link ∧
    (State.lingerEnd i s).service = s.service ∧ (State.lingerEnd i s).mask = s.mask ∧
    (State.lingerEnd i s).settings = s.settings ∧ (State.lingerEnd i s).clock = s.clock ∧
    (State.lingerEnd i s).transport = s.transport ∧ (State.lingerEnd i s).zeroizedMark = s.zeroizedMark ∧
    (State.lingerEnd i s).stager = s.stager ∧ (State.lingerEnd i s).rollovers = s.rollovers ∧
    (State.lingerEnd i s).u0 = s.u0 ∧ (State.lingerEnd i s).u1 = s.u1 ∧ (State.lingerEnd i s).suspended = s.suspended ∧
    (State.lingerEnd i s).test = s.test ∧ (State.lingerEnd i s).nextSequence = s.nextSequence ∧
    (State.lingerEnd i s).thermal = s.thermal ∧ (State.lingerEnd i s).queue = s.queue ∧
    (State.lingerEnd i s).restarting = s.restarting ∧ (State.lingerEnd i s).draws = s.draws ∧
    (State.lingerEnd i s).answer = s.answer ∧ (State.lingerEnd i s).pending = s.pending := by
  unfold State.lingerEnd
  repeat' split
  all_goals simp

@[simp] theorem State.phaseDue_keeps (i : Issuer) :
    (State.phaseDue i s).power = s.power ∧ (State.phaseDue i s).straps = s.straps ∧ (State.phaseDue i s).link = s.link ∧
    (State.phaseDue i s).service = s.service ∧ (State.phaseDue i s).mask = s.mask ∧
    (State.phaseDue i s).settings = s.settings ∧ (State.phaseDue i s).clock = s.clock ∧
    (State.phaseDue i s).transport = s.transport ∧ (State.phaseDue i s).zeroizedMark = s.zeroizedMark ∧
    (State.phaseDue i s).stager = s.stager ∧ (State.phaseDue i s).u0 = s.u0 ∧ (State.phaseDue i s).u1 = s.u1 ∧
    (State.phaseDue i s).suspended = s.suspended ∧ (State.phaseDue i s).test = s.test ∧
    (State.phaseDue i s).nextSequence = s.nextSequence ∧ (State.phaseDue i s).thermal = s.thermal ∧
    (State.phaseDue i s).restarting = s.restarting ∧ (State.phaseDue i s).draws = s.draws ∧
    (State.phaseDue i s).answer = s.answer ∧ (State.phaseDue i s).pending = s.pending := by
  unfold State.phaseDue
  repeat' split
  all_goals simp

end Sys2Proof.Machine
end

