-- ==== Sys2Proof/Laws/Ops.lean ====
section
/-! SUPPORT. What each shared operation can do, said once; the provers cite these instead of unfolding the operations. -/

namespace Sys2Proof.Machine

/-! ### Two states with the same fields -/

/-- Two states that agree in every field are equal. -/
theorem State.eq_of_fields {s t : State} (power : s.power = t.power) (straps : s.straps = t.straps) (link : s.link = t.link)
    (service : s.service = t.service) (mask : s.mask = t.mask) (settings : s.settings = t.settings)
    (clock : s.clock = t.clock) (slots : s.slots = t.slots) (transport : s.transport = t.transport)
    (zeroizedMark : s.zeroizedMark = t.zeroizedMark) (stager : s.stager = t.stager) (rollovers : s.rollovers = t.rollovers)
    (cache : s.cache = t.cache) (places : s.places = t.places) (u0 : s.u0 = t.u0) (u1 : s.u1 = t.u1)
    (suspended : s.suspended = t.suspended) (test : s.test = t.test) (jobs : s.jobs = t.jobs)
    (nextSequence : s.nextSequence = t.nextSequence) (thermal : s.thermal = t.thermal) (queue : s.queue = t.queue)
    (restarting : s.restarting = t.restarting) (draws : s.draws = t.draws) (answer : s.answer = t.answer)
    (pending : s.pending = t.pending) : s = t := by
  cases s; cases t; simp_all

/-! ### Posting -/

theorem CompletionQueue.push_room {q : CompletionQueue} (r : CompletionRecord) (h : q.records.length < 64) :
    q.push r = ⟨q.records ++ [r], q.overflow⟩ := by simp [CompletionQueue.push, h]

theorem CompletionQueue.push_full {q : CompletionQueue} (r : CompletionRecord) (h : 64 ≤ q.records.length) :
    q.push r = ⟨q.records, true⟩ := by simp [CompletionQueue.push, Nat.not_lt.mpr h]

theorem CompletionQueue.push_bounded {q : CompletionQueue} (r : CompletionRecord) (h : q.records.length ≤ 64) :
    (q.push r).records.length ≤ 64 := by
  unfold CompletionQueue.push
  split <;> simp_all

theorem State.post_eq (s : State) (r : CompletionRecord) :
    s.post r = s ∧ s.service = .zeroized ∨ s.post r = s.setQueue (s.queue.push r) ∧ s.service ≠ .zeroized := by
  unfold State.post
  split <;> simp_all

theorem State.post_bounded {s : State} (r : CompletionRecord) (h : s.queueBounded) : (s.post r).queueBounded := by
  rcases s.post_eq r with ⟨e, -⟩ | ⟨e, -⟩ <;> rw [e]
  · exact h
  · exact CompletionQueue.push_bounded r h

/-! ### Contexts by index -/

theorem State.contextAt_eq_some {s : State} {i : Nat} {c : Context} :
    s.contextAt i = some c ↔ ∃ u, s.places[i]? = some ⟨u, some c⟩ := by
  unfold State.contextAt
  cases h : s.places[i]? with
  | none => simp
  | some p => cases p; simp

theorem State.resolveHandle_eq_some {s : State} {h : Handle} {i : Nat} {c : Context} :
    s.resolveHandle h = some (i, c) ↔
      i = h.toNat % 64 ∧ i < 48 ∧ s.places[i]? = some ⟨h.toNat / 64, some c⟩ := by
  unfold State.resolveHandle
  split
  case isTrue lt =>
    cases hp : s.places[h.toNat % 64]? with
    | none => constructor <;> rintro ⟨⟩; simp_all
    | some p =>
      obtain ⟨u, o⟩ := p
      cases o with
      | none => simp; rintro rfl - ; simp [hp]
      | some d =>
        simp only
        split
        · constructor
          · rintro ⟨⟩; simp_all
          · rintro ⟨rfl, -, e⟩; simp_all
        · simp only [reduceCtorEq, false_iff, not_and]
          rintro rfl - e
          simp_all
  case isFalse nlt =>
    simp only [reduceCtorEq, false_iff, not_and]
    rintro rfl lt
    exact absurd lt nlt

theorem State.resolveHandle_contextAt {s : State} {h : Handle} {i : Nat} {c : Context}
    (e : s.resolveHandle h = some (i, c)) : s.contextAt i = some c :=
  State.contextAt_eq_some.mpr ⟨_, (State.resolveHandle_eq_some.mp e).2.2⟩

theorem State.contextAt_updateContext (s : State) (i j : Nat) (f : Context → Context) :
    (s.updateContext i f).contextAt j = if i = j then (s.contextAt j).map f else s.contextAt j := by
  simp only [State.updateContext, State.contextAt, State.setPlaces_places, List.getElem?_modify]
  split
  · cases s.places[j]? <;> simp
  · cases s.places[j]? <;> simp

/-! ### Failing and freeing -/

/-- A live context fails with the effects of R84. -/
theorem State.failContext_of_live {s : State} {i : Nat} {c : Context} {l : LiveState} (reason : FailReason) (posted : Bool)
    (at_i : s.contextAt i = some c) (live : c.state = .live l) :
    s.failContext i reason posted =
      (let t := (((s.updateContext i fun c => { c with state := .failed reason l, reserved := 0 }).cancelJobOf
        c.handle).releasePin c.handle .auth).releasePin c.handle .seal
       if posted = true then t.post (.failed c.handle c.lane reason l) else t) := by
  simp [State.failContext, at_i, live]

/-- A context that is not live does not fail again. -/
theorem State.failContext_of_not_live {s : State} {i : Nat} (reason : FailReason) (posted : Bool)
    (h : ∀ c, s.contextAt i = some c → c.isLive = false) : s.failContext i reason posted = s := by
  unfold State.failContext
  split
  · rename_i c hc
    have := h c hc
    unfold Context.isLive at this
    split <;> simp_all
  · rfl

theorem State.mem_releasePin {s : State} {h : Handle} {r : Role} {e : CacheEntry} (m : e ∈ (s.releasePin h r).cache) :
    e.isPinnedBy h r = false := by
  simp only [State.releasePin, State.setCache_cache, List.mem_filterMap, CacheEntry.released] at m
  obtain ⟨x, -, hx⟩ := m
  by_cases p : x.isPinnedBy h r = true
  · rw [if_pos p] at hx
    split at hx
    · cases hx
    · cases hx; simp [CacheEntry.isPinnedBy]
  · rw [if_neg p] at hx
    cases hx
    simpa using p

theorem State.mem_cancelJobOf {s : State} {h : Handle} {j : Job} :
    j ∈ (s.cancelJobOf h).jobs ↔ j ∈ s.jobs ∧ j.work.owner ≠ some h := by
  simp [State.cancelJobOf, State.cancelJobs]

theorem State.failContext_bounded {s : State} (i : Nat) (reason : FailReason) (posted : Bool) (h : s.queueBounded) :
    (s.failContext i reason posted).queueBounded := by
  unfold State.failContext
  repeat' split
  all_goals first | exact h | exact State.post_bounded _ (by simpa using h)

theorem State.failEach_bounded {s : State} (l : List Nat) (reason : FailReason) (h : s.queueBounded) :
    (s.failEach l reason).queueBounded := by
  induction l generalizing s with
  | nil => exact h
  | cons i l ih => exact ih (State.failContext_bounded i reason true h)

/-! ### The Directory -/

theorem findSlot_eq_some {slots : List Slot} {issuer : Issuer} {generation : Generation} {role : Role} {i : Nat}
    (h : findSlot slots issuer generation role = some i) :
    ∃ k, heldAt slots i = some k ∧ k.issuer = issuer ∧ k.generation = generation ∧ k.role = role := by
  obtain ⟨lt, p, -⟩ := List.findIdx?_eq_some_iff_getElem.mp h
  rcases hx : slots[i] with ⟨_ | k, e, b⟩
  · simp [hx, Slot.isFor] at p
  · refine ⟨k, ?_, ?_⟩
    · simp [heldAt, List.getElem?_eq_getElem lt, hx]
    · simpa [hx, Slot.isFor, and_assoc] using p

theorem findSlot_eq_none {slots : List Slot} {issuer : Issuer} {generation : Generation} {role : Role}
    (h : findSlot slots issuer generation role = none) (i : Nat) (k : MasterKey) (held : heldAt slots i = some k) :
    ¬ (k.issuer = issuer ∧ k.generation = generation ∧ k.role = role) := by
  simp only [findSlot, List.findIdx?_eq_none_iff] at h
  simp only [heldAt, Option.bind_eq_some_iff] at held
  obtain ⟨x, hx, hk⟩ := held
  have := h x (List.mem_of_getElem? hx)
  simp only [Slot.isFor, hk] at this
  simpa [and_assoc] using this

theorem activeSeal_eq_some {slots : List Slot} {issuer : Issuer} {i : Nat} (h : activeSeal slots issuer = some i) :
    ∃ k, heldAt slots i = some k ∧ k.issuer = issuer ∧ k.role = .seal ∧ k.state = .active := by
  obtain ⟨lt, p, -⟩ := List.findIdx?_eq_some_iff_getElem.mp h
  rcases hx : slots[i] with ⟨_ | k, e, b⟩
  · simp [hx, Slot.isActiveSeal] at p
  · refine ⟨k, ?_, ?_⟩
    · simp [heldAt, List.getElem?_eq_getElem lt, hx]
    · simpa [hx, Slot.isActiveSeal, and_assoc] using p

theorem activeSeal_eq_none {slots : List Slot} {issuer : Issuer} (h : activeSeal slots issuer = none) (i : Nat)
    (k : MasterKey) (held : heldAt slots i = some k) : ¬ (k.issuer = issuer ∧ k.role = .seal ∧ k.state = .active) := by
  simp only [activeSeal, List.findIdx?_eq_none_iff] at h
  simp only [heldAt, Option.bind_eq_some_iff] at held
  obtain ⟨x, hx, hk⟩ := held
  have := h x (List.mem_of_getElem? hx)
  simp only [Slot.isActiveSeal, hk] at this
  simpa [and_assoc] using this

theorem heldAt_setKeyState (slots : List Slot) (i j : Nat) (state : KeyState) :
    heldAt (setKeyState slots i state) j =
      if i = j then (heldAt slots j).map fun k => { k with state := state } else heldAt slots j := by
  simp only [setKeyState, heldAt, List.getElem?_modify]
  split <;> cases slots[j]? <;> simp

theorem heldAt_emptyEach (slots : List Slot) (withdrawn : List Nat) (j : Nat) :
    heldAt (emptyEach slots withdrawn) j = if j ∈ withdrawn then none else heldAt slots j := by
  induction withdrawn generalizing slots with
  | nil => simp [emptyEach]
  | cons i l ih =>
    have step := ih (slots.modify i fun x => { x with held := none, bound := 0 })
    simp only [emptyEach, List.foldl_cons] at step ⊢
    rw [step]
    simp only [heldAt, List.getElem?_modify, List.mem_cons]
    by_cases m : j ∈ l
    · simp [m]
    · by_cases e : i = j
      · subst e; cases slots[i]? <;> simp [m]
      · have ne : ¬ j = i := fun x => e x.symm
        cases slots[j]? <;> simp [m, e, ne]

/-! ### The arbiter -/

/-- What a unit's taking of a job can do (R116). -/
theorem State.takeNext_cases (s : State) (name : UnitName) :
    s.takeNext name = s ∧ (((s.unit name).serves s.suspended && (s.unit name).isFree) = false ∨ nextJob s.jobs = none) ∨
    ∃ j, nextJob s.jobs = some j ∧ ((s.unit name).serves s.suspended && (s.unit name).isFree) = true ∧
      s.takeNext name =
        (s.setJobs (updateJob s.jobs j.sequence fun j => { j with running := true, started := true })).setUnit name
          { s.unit name with activity := .running j.sequence (masterKeyFor s.slots j.operations.head?) } := by
  unfold State.takeNext
  split
  · rename_i h
    cases n : nextJob s.jobs with
    | none => left; simp
    | some j => right; exact ⟨j, rfl, h, rfl⟩
  · left; simp_all

theorem firstJob_mem {before : Job → Job → Bool} {jobs : List Job} {j : Job} (h : firstJob before jobs = some j) :
    j ∈ jobs := by
  induction jobs generalizing j with
  | nil => simp [firstJob] at h
  | cons x rest ih =>
    simp only [firstJob] at h
    cases hk : firstJob before rest with
    | none => simp_all
    | some k =>
      rw [hk] at h
      simp only at h
      split at h
      · cases h; exact List.mem_cons_of_mem _ (ih hk)
      · cases h; exact List.mem_cons_self

/-- The job that the arbiter hands out is a waiting job of the queue (R116). -/
theorem nextJob_waits {jobs : List Job} {j : Job} (h : nextJob jobs = some j) : j ∈ jobs ∧ j.running = false := by
  unfold nextJob at h
  split at h
  · rename_i k hk
    cases h
    have := firstJob_mem hk
    simp_all
  · have := firstJob_mem h
    simp_all

/-! ### The two shapes of a meaning -/

theorem request_refused {i : Instr} {own : State → State × Answer} {s : State} {r : Refuse} (running : s.power = .running)
    (g : s.linkRefusal i = some r) : request i own s = .next (s.answered i (.refuse r)) := by
  simp [request, running, g]

theorem request_taken {i : Instr} {own : State → State × Answer} {s : State} (running : s.power = .running)
    (g : s.linkRefusal i = none) : request i own s = .next ((own s).1.answered i (own s).2) := by
  simp [request, running, g]

theorem request_stopped {i : Instr} {own : State → State × Answer} {s : State} (stopped : s.power ≠ .running) :
    request i own s = .next s := by
  simp [request, stopped]

theorem event_running {effect : State → State} {s : State} (running : s.power = .running) :
    event effect s = .next (effect s) := by
  simp [event, running]

theorem event_stopped {effect : State → State} {s : State} (stopped : s.power ≠ .running) : event effect s = .next s := by
  simp [event, stopped]

theorem gate_off (i : Instr) : gate .serviceOff i = none := rfl

theorem gate_on (i : Instr) : gate .serviceOn i = none := rfl

/-- A request that is not handed over is judged by the service state (R163). -/
theorem State.linkRefusal_of_not_handed {s : State} {i : Instr} (h : s.link.hasHanded i = false) :
    s.linkRefusal i = gate s.service i := by
  simp [State.linkRefusal, h]

/-- A request that is handed over is not judged again (R163), save after a zeroize (R165). -/
theorem State.linkRefusal_of_handed {s : State} {i : Instr} (h : s.link.hasHanded i = true) (z : s.service ≠ .zeroized) :
    s.linkRefusal i = none := by
  simp [State.linkRefusal, h, z]

/-- The service state refuses nothing in SERVICE_OFF and SERVICE_ON. -/
theorem State.linkRefusal_of_service {s : State} (i : Instr) (h : s.service = .serviceOff ∨ s.service = .serviceOn) :
    s.linkRefusal i = none := by
  rcases h with h | h <;> simp [State.linkRefusal, h, gate]

/-- When a request is handed over, the head entry is its frame. -/
theorem Link.handedTag_eq_some {l : Link} {i : Instr} {tag : Byte} :
    l.handedTag i = some tag ↔ l.stage = .handed ∧
      ∃ kind body rest, l.entries = .request kind tag body :: rest ∧ decodeRequest kind body = .request i := by
  unfold Link.handedTag
  split
  · rename_i hs he
    simp only [hs, he, List.cons.injEq, Entry.request.injEq, true_and]
    constructor
    · intro h
      split at h
      · cases h
        exact ⟨_, _, _, ⟨⟨rfl, rfl, rfl⟩, rfl⟩, ‹_›⟩
      · cases h
    · rintro ⟨_, _, _, ⟨⟨rfl, rfl, rfl⟩, rfl⟩, d⟩
      rw [if_pos d]
  · rename_i no
    simp only [reduceCtorEq, false_iff, not_and, not_exists]
    rintro hs kind body rest he -
    exact no _ _ _ _ hs he

/-- The Lane Link takes the outcome of the request that it has handed over, and of no other (R162). -/
theorem Link.deliver_cases (l : Link) (i : Instr) (a : Answer) :
    (l.hasHanded i = false ∧ l.deliver i a = l) ∨
    ∃ tag, l.handedTag i = some tag ∧ l.deliver i a = { l with stage := .sending tag a } := by
  unfold Link.hasHanded Link.deliver
  cases l.handedTag i with
  | none => exact .inl ⟨rfl, rfl⟩
  | some tag => exact .inr ⟨tag, rfl, rfl⟩

/-- A begun entry is handed over or has its reply (R162). -/
theorem beginEntry_cases (now : StatusReport) (e : Entry) :
    beginEntry now e = .handed ∨ ∃ tag a, beginEntry now e = .sending tag a := by
  unfold beginEntry
  repeat' split
  all_goals simp

/-- A step either idles on an empty queue or runs the front command. -/
theorem step_cases (s : State) :
    (s.pending = [] ∧ step s = .next s) ∨ ∃ i rest, s.pending = i :: rest ∧ step s = exec i (s.setPending rest) := by
  unfold step
  cases h : s.pending with
  | nil => exact .inl ⟨rfl, rfl⟩
  | cons i rest => exact .inr ⟨i, rest, rfl, rfl⟩

end Sys2Proof.Machine
end

