-- ==== Sys2Proof/Laws/Requests.lean ====
section
/-! SUPPORT. Requests: each is a meaning of the one shape of Link.lean, and no owner's event touches the Lane Link, the supply,
or the commands that wait. -/

namespace Sys2Proof.Machine

/-- What no owner's event changes. -/
def State.sameOutside (s t : State) : Prop := t.link = s.link ∧ t.pending = s.pending ∧ t.power = s.power

/-- A request's owner. -/
def ownerOf : Instr → Option (State → State × Answer)
  | .openTag a b c d e f => some (ownOpen a b c d e f)
  | .verify a b => some (ownVerify a b)
  | .sealTag a b c d => some (ownSeal a b c d)
  | .close a => some (ownClose a)
  | .query a => some (ownQuery a)
  | .prefetch a b c => some (ownPrefetch a b c)
  | .purge a b c => some (ownPurge a b c)
  | .collect a => some (ownCollect a)
  | .status => some fun s => (s, .status s.report)
  | .stageBegin a b => some (ownStageBegin a b)
  | .stageChunk a b => some (ownStageChunk a b)
  | .stageCommit a => some (ownStageCommit a)
  | .stageAbandon => some ownStageAbandon
  | .keyRead a => some (ownKeyRead a)
  | .keyWithdraw a b c => some (ownKeyWithdraw a b c)
  | .rollover a b c d e f g => some (ownRollover a b c d e f g)
  | .rollback a => some (ownRollback a)
  | .time a => some (ownTime a)
  | .lanes a b => some (ownLanes a b)
  | .serviceOn => some ownServiceOn
  | .serviceOff => some ownServiceOff
  | .config a b c d e f => some (ownConfig a b c d e f)
  | .selftest => some ownSelftest
  | .restart => some fun s => (s.setRestarting true, .restarting)
  | .frameReceived _ => none
  | .frameGapTimeout => none
  | .replyComplete => none
  | .laneTimeTick => none
  | .deadlineEvent _ => none
  | .lingerEnd _ => none
  | .windowEnd => none
  | .phaseDue _ => none
  | .prefetchExpiry _ => none
  | .thermalReading _ => none
  | .operationComplete _ => none
  | .selftestEnd _ _ => none
  | .powerOn => none
  | .supplyLoss => none
  | .resetNLow => none
  | .resetEnd _ _ => none
  | .zeroize => none
  | .byteReceived _ => none
  | .provisioning _ => none

theorem ownerOf_isSome (i : Instr) : (ownerOf i).isSome = i.isRequest := by cases i <;> rfl

/-- A well-formed request is a request of its owner's event. -/
theorem exec_of_ownerOf {i : Instr} {own : State → State × Answer} (h : ownerOf i = some own) (wf : i.wellFormed = true)
    (s : State) : exec i s = request i own s := by
  cases i <;> simp only [ownerOf, Option.some.injEq, reduceCtorEq] at h <;> subst h <;> try rfl
  simp only [exec, execStageChunk, wf, if_true]

theorem ownOpen_outside (a b c d e f) (s : State) : s.sameOutside (ownOpen a b c d e f s).1 := by
  unfold ownOpen State.sameOutside
  split <;> simp

theorem ownVerify_outside (a b) (s : State) : s.sameOutside (ownVerify a b s).1 := by
  unfold ownVerify State.sameOutside
  repeat' split
  all_goals simp

theorem ownSeal_outside (a b c d) (s : State) : s.sameOutside (ownSeal a b c d s).1 := by
  unfold ownSeal State.sameOutside
  repeat' split
  all_goals simp

theorem ownPrefetch_outside (a b c) (s : State) : s.sameOutside (ownPrefetch a b c s).1 := by
  unfold ownPrefetch State.prefetchResolved State.sameOutside
  dsimp only
  repeat' split
  all_goals simp

theorem ownStageCommit_outside (a) (s : State) : s.sameOutside (ownStageCommit a s).1 := by
  unfold ownStageCommit State.commit State.sameOutside
  dsimp only
  repeat' split
  all_goals simp

/-- No owner's event changes the Lane Link, the supply or the commands that wait. -/
theorem own_outside {i : Instr} {own : State → State × Answer} (h : ownerOf i = some own) (s : State) :
    s.sameOutside (own s).1 := by
  cases i <;> simp only [ownerOf, Option.some.injEq, reduceCtorEq] at h <;> subst h
  case openTag => exact ownOpen_outside _ _ _ _ _ _ _
  case verify => exact ownVerify_outside _ _ _
  case sealTag => exact ownSeal_outside _ _ _ _ _
  case prefetch => exact ownPrefetch_outside _ _ _ _
  case stageCommit => exact ownStageCommit_outside _ _
  all_goals
    simp only [State.sameOutside, ownClose, ownQuery, ownPurge, ownCollect, ownStageBegin, ownStageChunk, ownStageAbandon,
      ownKeyRead, ownKeyWithdraw, ownRollover, ownRollback, ownTime, ownLanes, ownServiceOn, ownServiceOff, ownConfig,
      ownSelftest]
    try (repeat' split)
    all_goals simp

end Sys2Proof.Machine
end

