-- ==== Sys2Proof/Tests/Slice0.lean ====
section
/-! SUPPORT. Tests: the smoke test of WellFormed, worked examples of the manual, and a witness for every statement that has
hypotheses. Expected values come from the manual or from hand calculation by its rules. -/

namespace Sys2Proof.Tests

open Machine

/-! ### States for the tests -/

/-- The state after a command. -/
def after (i : Instr) (s : State) : State :=
  match exec i s with
  | .next t => t
  | .fault _ => s
  | .refused _ => s

/-- A master key of issuer 1 whose window is the lane second 20,000 only. -/
def master (role : Role) (generation : Generation) (state : KeyState) : MasterKey :=
  ⟨state, 1, generation, role, 20000, 20001, 0, 0⟩

/-- A slot at epoch 3 with that key. -/
def slot (role : Role) (generation : Generation) (state : KeyState) : Slot := ⟨some (master role generation state), 3, 0⟩

/-- The slots of the tests: issuer 1 seals under generation 5, and generation 6 stands by. -/
def keys : List Slot := [slot .auth 5 .active, slot .seal 5 .active, slot .auth 6 .standby, slot .seal 6 .standby]

/-- A part in SERVICE_ON with lane 7 enabled, at the last ms of lane second 20,000. -/
def serving : State :=
  { State.reset with
    service := .serviceOn
    mask := 0x80
    clock := ⟨some 20000999, 0, 0⟩
    slots := keys ++ List.replicate 60 Slot.blank
    u0 := CipherUnit.fresh
    u1 := CipherUnit.fresh
    test := none }

/-- A context of handle 64 (index 0, use count 1) whose deadline is the present lane time. -/
def context (state : ContextState) : Context where
  handle := 64
  lane := 7
  issuer := 1
  serial := 9
  generation := 5
  nonce := 2
  challenge := 3
  auth := ⟨0, 3⟩
  sealKey := ⟨1, 3⟩
  sealGeneration := 5
  deadline := 20000999
  reserved := 3
  authTaint := false
  sealTaint := false
  state := state

/-- A part that holds one context. -/
def holding (c : Context) : State := { serving with places := ⟨1, some c⟩ :: List.replicate 47 Place.fresh }

/-- A part that holds one context, in a state, and whose unit U0 runs a job. -/
def working (state : LiveState) (work : Work) (operations : List Operation) : State :=
  { holding (context (.live state)) with
    jobs := [⟨work, operations, 20000999, 0, true, true⟩]
    nextSequence := 1
    u0 := ⟨.good, .inService, .running 0 none⟩ }

/-- A part whose Lane Link stands in some way. -/
def linked (receiver : Receiver) (entries : List Entry) (stage : LinkStage) : State :=
  { serving with link := ⟨receiver, entries, stage⟩ }

theorem serving_takes (i : Instr) : serving.takes i := ⟨rfl, .inr (.inl rfl)⟩

theorem serving_inService : serving.inService := ⟨rfl, rfl⟩

/-- A part in HALTED to whose owner a request was handed over before. -/
def handed (kind : Byte) (body : List Byte) : State :=
  { linked .hunting [.request kind 7 body] .handed with service := .halted }

theorem handed_takes (kind : Byte) (body : List Byte) (i : Instr) (d : decodeRequest kind body = .request i) :
    (handed kind body).takes i := by
  refine ⟨rfl, .inr (.inr ⟨?_, nofun⟩)⟩
  simp [handed, linked, Link.hasHanded, Link.handedTag, d]

theorem holding_inService (c : Context) : (holding c).inService := ⟨rfl, rfl⟩

/-! ### WellFormed: each check refuses an ill-formed term -/

theorem test_wellFormed_chunk_empty : (Instr.stageChunk 0 []).wellFormed = false := by decide +kernel

theorem test_wellFormed_chunk_long : (Instr.stageChunk 0 (List.replicate 241 0)).wellFormed = false := by decide +kernel

theorem test_wellFormed_deadline_index : (Instr.deadlineEvent 48).wellFormed = false := by decide +kernel

theorem test_wellFormed_linger_index : (Instr.lingerEnd 48).wellFormed = false := by decide +kernel

theorem test_wellFormed_sequence : (Instr.prefetchExpiry 281474976710656).wellFormed = false := by decide +kernel

/-! ### Formats: frames written out by the layouts of R174, and the two checks at the ASCII digits 123456789 -/

/-- The check value that catalogues give the CRC-16 of R159 (polynomial 1021, initial FFFF). -/
theorem test_crc16 : crc16 [0x31, 0x32, 0x33, 0x34, 0x35, 0x36, 0x37, 0x38, 0x39] = 0x29B1 := by decide +kernel

/-- The check value that catalogues give the CRC-32 of R26. -/
theorem test_crc32 : crc32 [0x31, 0x32, 0x33, 0x34, 0x35, 0x36, 0x37, 0x38, 0x39] = 0xCBF43926 := by decide +kernel

theorem test_decode_open :
    decodeRequest 0x01 [4, 0x02, 0x63, 0x00, 0x01, 0x12, 0x42, 2, 1, 2, 3, 4, 5, 6, 7, 8, 0x01, 0xF4]
      = .request (.openTag 4 611 70210 2 0x0102030405060708 500) := by decide +kernel

theorem test_decode_seal :
    decodeRequest 0x03 [0x01, 0xC3, 2, 0x00, 0x00, 0x01, 0x5E, 0x00, 0x12] = .request (.sealTag 451 2 350 18) := by decide +kernel

theorem test_decode_purge :
    decodeRequest 0x11 [0x01, 0x36, 0x00, 0x00, 0x4E, 0x2D, 4] = .request (.purge 310 20013 4) := by decide +kernel

theorem test_decode_chunk : decodeRequest 0x0A [0x00, 0x3C, 7, 8] = .request (.stageChunk 60 [7, 8]) := by decide +kernel

theorem test_decode_rollover :
    decodeRequest 0x0F [0x02, 0x08, 7, 8, 0x00, 0x00, 0x17, 0x70, 0x00, 0x0A, 0x00, 0x1E, 0x00, 0x3C]
      = .request (.rollover 520 7 8 6000 10 30 60) := by decide +kernel

theorem test_decode_time : decodeRequest 0x12 [0x00, 0x00, 0x00, 0x0F, 0x42, 0x40] = .request (.time 1000000) := by decide +kernel

theorem test_decode_config :
    decodeRequest 0x15 [0x04, 0xB7, 12, 8, 95, 85, 1] = .request (.config 1207 12 8 95 85 1) := by decide +kernel

/-- Laid out by R176: OPENED of handle 451 on lane 4, and THERMAL with a negative reading. -/
theorem test_record_bytes :
    (CompletionRecord.opened 451 4 0x0102030405060708 0x1112131415161718).fields
      = [0x01, 0x01, 0xC3, 4, 1, 2, 3, 4, 5, 6, 7, 8, 0x11, 0x12, 0x13, 0x14, 0x15, 0x16, 0x17, 0x18] ∧
    (CompletionRecord.thermal .throttled .normal (-2)).bytes = [0x09, 1, 0, 0xFE] ++ List.replicate 28 0 := by
  decide +kernel

/-- Laid out by R174 and R175: the SLEW reply of 09's example, and CONFLICT of record 2 within the image. -/
theorem test_reply_bytes :
    (Answer.timeTaken .slew 1000000 1500).body = [3, 0x00, 0x00, 0x00, 0x0F, 0x42, 0x40, 0x05, 0xDC] ∧
    (Answer.refuse (.conflict 2 none)).body = [0x21, 2, 0xFF] ∧ (Answer.refuse (.badImage none)).kind = 0x81 := by
  decide +kernel

/-- No row of the table gives bits. -/
theorem test_decodeTableWord : decodeTableWord 8 0x08 = none := rfl

/-! ### Worked examples of the manual -/

/-- D_a of the worked case of 08. -/
theorem test_diversification :
    diversification 70210 611 2 .auth = 0x0001124202630201FFFEEDBDFD9CFDFE := by decide +kernel

/-- The three loads of the worked case of 06: 36 operations on two units, and on one. -/
theorem test_estimate : estimateMs 36 2 = 3 ∧ estimateMs 36 1 = 5 := by decide +kernel

/-- The cost of the OPEN of that case, whose AUTH lookup misses. -/
theorem test_open_cost : openCost false true = 5 := by decide +kernel

/-- The range of the worked PURGE of 04. -/
theorem test_purge_range :
    rangeFirst 20013 4 = 20000 ∧ inRange 20013 4 20015 = true ∧ inRange 20013 4 20020 = false := by decide +kernel

/-- The slew of the worked example of 09: the reply, and the new debt of a second TIME. -/
theorem test_time_slew :
    (after (.time 998500) { serving with clock := ⟨some 1000000, 0, 0⟩ }).answer = some (.timeTaken .slew 1000000 1500) ∧
    (after (.time 1000100) { serving with clock := ⟨some 1000500, 1000, 0⟩ }).clock.debt = 400 := by decide +kernel

/-- The same example: 1,500 ticks of lane time later the debt is absorbed and 3,000 ms have passed. -/
theorem test_tick_debt : LaneClock.tick ⟨some 1001499, 1, 2998⟩ = ⟨some 1001500, 0, 3000⟩ := by decide +kernel

/-- The hot afternoon of 10 at 2,500 ms: THROTTLED to SUSPENDED. -/
theorem test_thermal_suspends :
    (after (.thermalReading 117) { serving with thermal := ⟨some 116, 4, 1, .throttled⟩ }).thermal = ⟨some 117, 5, 2, .suspended⟩
      := by decide +kernel

/-- The first line of the overflow example of 11: COLLECT 9 is taken as 7. -/
theorem test_collect_clamps : collectTaken 9 = 7 ∧ collectTaken 0 = 1 := by decide +kernel

/-- The phase times of the worked rollover of 03. -/
theorem test_rollover_times :
    (after (.rollover 520 7 8 6000 10 30 60)
      { serving with
        clock := ⟨some 5100000, 0, 0⟩
        slots := [Slot.blank, ⟨some ⟨.active, 520, 7, .auth, 1000, 20000, 0, 0⟩, 2, 0⟩, Slot.blank,
          ⟨some ⟨.standby, 520, 8, .auth, 6000, 9000000, 0, 0⟩, 5, 0⟩,
          ⟨some ⟨.active, 520, 7, .seal, 1000, 20000, 0, 0⟩, 3, 0⟩, Slot.blank, Slot.blank,
          ⟨some ⟨.standby, 520, 8, .seal, 6000, 9000000, 0, 0⟩, 1, 0⟩] ++ List.replicate 56 Slot.blank }).answer
      = some (.rolloverPlanned 6000 6600 8400 12000 1 4 3 7) := by decide +kernel

/-- The clamps of R144: COOL against HOT as taken. -/
theorem test_config_clamps :
    settingsTaken 7 0 200 255 255 9 = ⟨7, 1, 100, 110, 105, 3⟩ ∧ settingsTaken 7 49 0 0 0 0 = ⟨7, 48, 0, 60, 50, 0⟩ := by decide +kernel

/-! ### Witnesses: the hypotheses of the statements are met, each clause at the edges of its range -/

/-! The Lane Link. The frame is that of a STATUS with tag 5. -/

/-- The STATUS frame after its length, to its first CRC byte. -/
def statusBytes : List Byte := [8, 5, (crc16 [2, 8, 5]).extractLsb' 8 8]

/-- The last CRC byte of the STATUS frame. -/
def statusLast : Byte := (crc16 [2, 8, 5]).extractLsb' 0 8

theorem witness_BytesMoveTheReceiver :
    (after (.byteReceived 0xD1) (linked .hunting [] .idle)).link.receiver = .atLength ∧
    (after (.byteReceived 0xD0) (linked .hunting [] .idle)).link.receiver = .hunting ∧
    (after (.byteReceived 1) (linked .atLength [] .idle)).link.receiver = .hunting ∧
    (after (.byteReceived 2) (linked .atLength [] .idle)).link.receiver = .inFrame 2 [] ∧
    (after (.byteReceived 250) (linked .atLength [] .idle)).link.receiver = .inFrame 250 [] ∧
    (after (.byteReceived 251) (linked .atLength [] .idle)).link.receiver = .hunting ∧
    (after (.byteReceived 9) (linked (.inFrame 2 [8, 5]) [] .idle)).link.receiver = .inFrame 2 [8, 5, 9] ∧
    (Receiver.inFrame 2 [8, 5]).lacksOne = false ∧
    (after .frameGapTimeout (linked (.inFrame 2 [8, 5]) [] .idle)).link.receiver = .hunting := by decide +kernel

/-- The tag, the service state and the lane time of the STATUS reply that is being sent. -/
def reported (l : Link) : Option (Byte × ServiceState × Option Nat) :=
  match l.stage with
  | .sending tag (.status r) => some (tag, r.service, r.time)
  | _ => none

/-- Some request entries and some overrun notes. -/
def entries (requests notes : Nat) : List Entry :=
  List.replicate requests (.request 8 1 []) ++ List.replicate notes (.overrun 8 2)

theorem witness_GoodFramesJoinTheAnswerList :
    (∃ crc, statusBytes ++ [statusLast] = 8 :: 5 :: ([] ++ crc) ∧ crc.length = 2
      ∧ fromBytes crc = (crc16 [2, 8, 5]).toNat) ∧
    (after (.byteReceived statusLast) (linked (.inFrame 2 statusBytes) [] .idle)).link.entries = [.request 8 5 []] ∧
    reported (after (.byteReceived statusLast) (linked (.inFrame 2 statusBytes) [] .idle)).link
      = some (5, .serviceOn, some 20000999) ∧
    (after (.frameReceived statusLast) (linked (.inFrame 2 statusBytes) (entries 3 0) .handed)).link.entries
      = entries 3 0 ++ [.request 8 5 []] ∧
    (after (.frameReceived statusLast) (linked (.inFrame 2 statusBytes) (entries 4 7) .handed)).link.entries
      = entries 4 7 ++ [.overrun 8 5] ∧
    (after (.byteReceived statusLast) (linked (.inFrame 2 statusBytes) (entries 4 8) .handed)).link.entries = entries 4 8 ∧
    (after (.byteReceived (statusLast + 1)) (linked (.inFrame 2 statusBytes) [] .idle)).link = Link.quiet :=
  ⟨⟨statusBytes.drop 2 ++ [statusLast], by decide +kernel⟩, by decide +kernel⟩

/-- How the other blocks stand in a service state. -/
def now (service : ServiceState) : StatusReport := (serving.setService service).report

theorem witness_HeadEntryIsChecked :
    beginEntry (now .serviceOn) (.request 0x00 5 []) = .sending 5 (.refuse (.unknownKind 0x00)) ∧
    beginEntry (now .starting) (.request 0x18 5 []) = .sending 5 (.refuse (.unknownKind 0x18)) ∧
    requestBody 0x01 = some (18, 18) ∧ requestBody 0x0A = some (3, 242) ∧ requestBody 0x17 = some (0, 0) ∧
    beginEntry (now .starting) (.request 0x01 5 (List.replicate 17 0)) = .sending 5 (.refuse (.badLength 17)) ∧
    beginEntry (now .serviceOn) (.request 0x0A 5 (List.replicate 243 0)) = .sending 5 (.refuse (.badLength 243)) ∧
    beginEntry (now .starting) (.request 0x01 5 (List.replicate 18 0)) = .sending 5 (.refuse .notReady) ∧
    beginEntry (now .halted) (.request 0x0A 5 (List.replicate 242 0)) = .sending 5 (.refuse .halted) ∧
    beginEntry (now .halted) (.request 0x17 5 []) = .handed ∧ beginEntry (now .halted) (.request 0x0D 5 [0]) = .handed ∧
    beginEntry (now .zeroized) (.request 0x17 5 []) = .sending 5 (.refuse .zeroized) ∧
    beginEntry (now .zeroized) (.request 0x08 5 []) ≠ .handed ∧
    beginEntry (now .serviceOff) (.request 0x14 5 [1]) = .handed ∧
    beginEntry (now .serviceOff) (.request 0x14 5 [2]) = .sending 5 (.refuse (.badField 0 0)) := by decide +kernel

theorem witness_RepliesLeaveInOrder :
    (after .replyComplete (linked .hunting [.request 8 1 [], .overrun 9 2] (.sending 1 .selftestBegun))).link
      = ⟨.hunting, [.overrun 9 2], .sending 2 (.refuse .linkOverrun)⟩ ∧
    (after .replyComplete (linked .hunting [.overrun 9 2] (.sending 2 (.refuse .linkOverrun)))).link = Link.quiet ∧
    (after .replyComplete
      { linked .hunting [.request 0x17 1 []] (.sending 1 .restarting) with restarting := true }).power = .inReset ∧
    (after .replyComplete (linked .hunting [.request 8 1 []] .handed)).link = ⟨.hunting, [.request 8 1 []], .handed⟩ := by
  decide +kernel

theorem witness_ServiceStateRefusesFirst :
    Instr.restart.isRequest = true ∧ Instr.restart.wellFormed = true ∧
    (after .restart { serving with service := .starting }).answer = some (.refuse .notReady) ∧
    (after .restart { serving with service := .halted }).answer = some .restarting ∧
    (after .selftest { serving with service := .halted }).answer = some (.refuse .halted) ∧
    (after (.keyRead 64) { serving with service := .halted }).answer = some (.keyAbsent 64) ∧
    (after .restart { serving with service := .zeroized }).answer = some (.refuse .zeroized) ∧
    (after .restart { serving with power := .inReset }).answer = none := by decide +kernel

/-- The service state is read when the entry is begun (R163): a COLLECT begun in SERVICE_OFF is taken although the self-test
has since ended in HALTED; a zeroize refuses it (R165). -/
theorem witness_ServiceStateRefusesFirst_handed :
    decodeRequest 0x07 [3] = .request (.collect 3) ∧
    (handed 0x07 [3]).link.hasHanded (.collect 3) = true ∧
    (after (.collect 3) (handed 0x07 [3])).answer = some (.collected [] 0 false) ∧
    (after (.collect 4) (handed 0x07 [3])).answer = some (.refuse .halted) ∧
    (after (.collect 3) { handed 0x07 [3] with service := .zeroized }).link.stage = .sending 7 (.refuse .zeroized) ∧
    (after .serviceOn (handed 0x14 [1])).answer = some (.service .halted 0) ∧
    (after .selftest (handed 0x16 [])).answer = some (.refuse .serviceState) := by decide +kernel

/-- A STATUS in a frame reports the block in the event that begins it (R170), not when the command comes. -/
theorem test_status_is_read_at_its_beginning :
    reported (after .status (after .laneTimeTick
      (after (.frameReceived statusLast) (linked (.inFrame 2 statusBytes) [] .idle)))).link
      = some (5, .serviceOn, some 20000999) := by decide +kernel

theorem witness_OutcomeBecomesTheReply :
    (Answer.collected (List.replicate 7 (.verified 64 7)) 0 false).body.length ≤ 248 ∧
    (linked .hunting [.overrun 9 2] (.sending 2 (.refuse .linkOverrun))).link.stage = .sending 2 (.refuse .linkOverrun) ∧
    (decodeRequest 0x04 [0, 5] = .request (.close 5)) ∧
    (after (.close 5) (linked .hunting [.request 0x04 7 [0, 5]] .handed)).link.stage
      = .sending 7 (.refuse (.unknownHandle 5)) ∧
    (linked .hunting [] .idle).link.hasHanded (.close 5) = false ∧
    (after (.close 5) (linked .hunting [] .idle)).link = Link.quiet := by decide +kernel

/-- Bodies by R173 and R174 for the edges of the lengths, and the longest COMMITTED record. -/
theorem witness_RepliesAndRecordsAreLaidOut :
    (List.replicate 24 0 : List Nat).length ≤ 24 ∧ (Answer.status serving.report).body.length = 35 ∧
    (Answer.context (context (.sealed 6 7)) .none).body.length = 59 ∧ (Answer.keyAbsent 9).body.length = 22 ∧
    (Answer.opened 451 5 6 7 true true).body = [0x01, 0xC3, 0, 0, 0, 0, 0, 5, 6, 0, 7, 3] := by decide +kernel

theorem witness_RequestsSurviveTheLink :
    (Instr.stageChunk 1 [7]).wellFormed = true ∧ encodeRequest (.stageChunk 1 [7]) = some (0x0A, [0, 1, 7]) ∧
    (Instr.stageChunk 1 (List.replicate 240 7)).wellFormed = true ∧ encodeRequest .status = some (0x08, []) ∧
    (now .serviceOn).service = .serviceOn := by
  decide +kernel

/-! Transactions -/

theorem witness_UnknownHandlesAreRefused :
    serving.takes (.close 48) ∧ serving.takes (.query 48) ∧ serving.inService ∧
    (¬ ∃ c, (48 : Handle).toNat % 64 < 48 ∧ (serving.places[(48 : Handle).toNat % 64]?) = some ⟨(48 : Handle).toNat / 64, some c⟩) ∧
    (holding (context (.live .awaitTag))).resolveHandle 64 = some (0, context (.live .awaitTag)) ∧
    (holding (context (.live .awaitTag))).resolveHandle 0 = none ∧
    (holding (context (.live .awaitTag))).resolveHandle 65 = none ∧
    (holding (context (.live .awaitTag))).resolveHandle 48 = none :=
  ⟨serving_takes _, serving_takes _, serving_inService, by simp, by decide +kernel⟩

/-- The slots of the tests hold no triple twice and one ACTIVE SEAL slot. -/
theorem keys_lawful : triplesUnique serving.slots ∧ oneActiveSeal serving.slots := by
  have few : ∀ (i : Nat) (k : MasterKey), heldAt serving.slots i = some k → i < 4 := by
    intro i k h
    by_contra ge
    have blank : heldAt serving.slots i = heldAt (List.replicate 60 Slot.blank) (i - 4) := by
      simp only [heldAt, serving]
      rw [List.getElem?_append_right (by simp [keys]; omega)]
      rfl
    rw [blank] at h
    simp only [heldAt, List.getElem?_replicate] at h
    split at h <;> simp [Slot.blank] at h
  constructor
  · intro i j x y hi hj _ g r
    have bi := few i x hi
    have bj := few j y hj
    interval_cases i <;> interval_cases j <;> first | rfl | (cases hi; cases hj; revert g r; decide)
  · intro i j x y hi hj rx ry sx sy _
    have bi := few i x hi
    have bj := few j y hj
    interval_cases i <;> interval_cases j <;> first | rfl | (cases hi; cases hj; revert rx ry sx sy; decide)

/-- The smallest dwell that the default margin lets an idle part take, with both keys missing. -/
theorem witness_OpenIsTaken :
    serving.inService ∧ triplesUnique serving.slots ∧ oneActiveSeal serving.slots ∧ serving.mask.getLsbD 7 = true ∧
    1 ≤ serving.unitsServing ∧ serving.contexts = [] ∧ serving.nowSeconds = 20000 ∧
    serving.slots[0]? = some (slot .auth 5 .active) ∧ serving.slots[1]? = some (slot .seal 5 .active) ∧
    serving.places[0]? = some ⟨1023, none⟩ ∧ serving.liveCount 7 < serving.settings.quota ∧
    serving.queue.records.length < 48 ∧ serving.openEstimate 9 6 + serving.settings.margin ≤ 9 ∧
    (after (.openTag 7 1 9 5 2 9) serving).answer = some (.opened 0 20001008 1 0 false false) :=
  ⟨serving_inService, keys_lawful.1, keys_lawful.2, by decide +kernel⟩

/-- A part in which one thing stands in the way of an OPEN, check by check. -/
theorem witness_OpenIsRefusedInOrder :
    (after (.openTag 8 1 9 5 2 9) { serving with service := .serviceOff }).answer = some (.refuse .notInService) ∧
    (after (.openTag 8 1 9 5 2 9) serving).answer = some (.refuse (.badField 0 0)) ∧
    (after (.openTag 6 1 9 5 2 9) serving).answer = some (.refuse .laneOff) ∧
    (after (.openTag 7 0xFFFF 9 5 2 9) serving).answer = some (.refuse (.badField 1 0)) ∧
    (after (.openTag 7 1 9 5 2 9) { serving with suspended := true }).answer = some (.refuse .thermal) ∧
    (after (.openTag 7 1 9 5 2 9) (holding (context (.sealed 1 1)))).answer = some (.refuse (.duplicateTag 64 7)) ∧
    (after (.openTag 7 1 9 7 2 9) serving).answer = some (.refuse (.noKey 1 none 7)) ∧
    (after (.openTag 7 1 9 5 2 9) { serving with slots := serving.slots.set 1 Slot.blank }).answer
      = some (.refuse (.noKey 2 none 5)) ∧
    (after (.openTag 7 1 8 5 2 9)
      { serving with places := List.replicate 48 ⟨1, some (context (.failed .expired .opening))⟩ }).answer
      = some (.refuse .tableFull) ∧
    (after (.openTag 7 1 8 5 2 9)
      { holding (context (.live .awaitTag)) with settings := { Settings.default with quota := 1 } }).answer
      = some (.refuse (.laneFull 1 1)) ∧
    (after (.openTag 7 1 9 5 2 9)
      { serving with queue := ⟨List.replicate 48 (.verified 64 7), false⟩ }).answer = some (.refuse (.backlog 48)) ∧
    (after (.openTag 7 1 9 5 2 8) serving).answer = some (.refuse (.overloaded 1)) := by decide +kernel

theorem witness_SelectionOfKeys :
    resolveAuth serving.slots 1 7 20000 = .error (.noKey 1 none 7) ∧
    resolveAuth serving.slots 1 6 20000 = .error (.keyNotYet .auth 2 6) ∧
    resolveAuth (setKeyState serving.slots 0 .draining) 1 5 20000 = .error (.keyRetired .auth 0 5) ∧
    resolveAuth serving.slots 1 5 19999 = .error (.keyNotYet .auth 0 5) ∧
    resolveAuth serving.slots 1 5 20000 = .ok ⟨0, 3⟩ ∧
    resolveAuth serving.slots 1 5 20001 = .error (.keyRetired .auth 0 5) ∧
    resolveSeal serving.slots 2 5 20000 = .error (.noKey 2 none 5) ∧
    resolveSeal serving.slots 1 6 19999 = .error (.keyNotYet .seal 1 5) ∧
    resolveSeal serving.slots 1 6 20000 = .ok (⟨1, 3⟩, 5) ∧
    resolveSeal serving.slots 1 6 20001 = .error (.noKey 2 (some 1) 5) := by decide +kernel

theorem witness_AdmissionEstimate : (1 ≤ 1 ∧ 1 ≤ 2) ∧ (1 ≤ 2 ∧ 2 ≤ 2) := by decide

theorem witness_VerifyOutcomes :
    (holding (context (.live .awaitTag))).inService ∧
    (after (.verify 64 5) { holding (context (.live .awaitTag)) with service := .serviceOff }).answer
      = some (.refuse .notInService) ∧
    (after (.verify 64 5) (holding (context (.failed .laneOff .opening)))).answer = some (.refuse (.txnFailed .laneOff .opening)) ∧
    (after (.verify 64 5) (holding (context (.live .opening)))).answer = some (.refuse (.wrongState (.live .opening))) ∧
    (after (.verify 64 5) (holding (context (.sealed 6 7)))).answer = some (.refuse (.wrongState (.sealed 6 7))) ∧
    (after (.verify 64 5) (holding { context (.live .awaitTag) with authTaint := true })).answer
      = some (.refuse (.keyWithdrawn .auth)) ∧
    (after (.verify 64 5) (holding (context (.live .awaitTag)))).answer = some (.verifying 64 20000999) :=
  ⟨holding_inService _, by decide +kernel⟩

/-- A live, unpinned SEAL entry of the tag of the tests. -/
def sealEntry : CacheEntry := ⟨1, 9, 5, .seal, 0, 1, 3, none, none⟩

theorem witness_SealOutcomes :
    (holding (context (.live .authenticated))).inService ∧
    (after (.sealTag 64 0 1 1) { holding (context (.live .authenticated)) with service := .serviceOff }).answer
      = some (.refuse .notInService) ∧
    (after (.sealTag 64 1 1 1) (holding (context (.failed .expired .sealing)))).answer
      = some (.refuse (.txnFailed .expired .sealing)) ∧
    (after (.sealTag 64 1 1 1) (holding (context (.live .sealing)))).answer = some (.refuse (.wrongState (.live .sealing))) ∧
    (after (.sealTag 64 1 1 1) (holding (context (.sealed 6 7)))).answer = some (.refuse (.wrongState (.sealed 6 7))) ∧
    (after (.sealTag 64 0 1 1) (holding (context (.live .authenticated)))).answer = some (.refuse (.badField 2 0)) ∧
    (after (.sealTag 64 16 1 1) (holding (context (.live .authenticated)))).answer = some (.refuse (.badField 2 0)) ∧
    (after (.sealTag 64 15 10000000 1) (holding (context (.live .authenticated)))).answer = some (.refuse (.badField 3 0)) ∧
    (after (.sealTag 64 1 1 1) (holding { context (.live .authenticated) with sealTaint := true })).answer
      = some (.refuse (.keyWithdrawn .seal)) ∧
    (after (.sealTag 64 15 9999999 1) (holding (context (.live .authenticated)))).answer = some (.sealing 64 20000999 3) ∧
    (after (.sealTag 64 1 1 1) { holding (context (.live .authenticated)) with cache := [sealEntry] }).answer
      = some (.sealing 64 20000999 2) ∧
    (after (.sealTag 64 1 1 1)
      { holding (context (.live .authenticated)) with
        cache := [{ sealEntry with pin := some 64, doom := some .purged }] }).answer = some (.sealing 64 20000999 2) :=
  ⟨holding_inService _, by decide +kernel⟩

theorem witness_FailureEffects :
    (holding (context (.live .sealing))).contextAt 0 = some (context (.live .sealing)) ∧
    (holding (context (.sealed 6 7))).contextAt 0 = some (context (.sealed 6 7)) ∧
    (after (.deadlineEvent 0) (working .verifying (.verifying 64 5) [.tagProof])).contextAt 0
      = some { context (.failed .expired .verifying) with reserved := 0 } ∧
    (after (.verify 64 5) (holding { context (.live .awaitTag) with authTaint := true })).queue.records = [] := by
  decide +kernel

/-- The release of pins keeps the order, and only a doomed entry leaves (R64). -/
theorem test_release_keeps_the_order :
    (after (.deadlineEvent 0)
      { holding (context (.live .awaitTag)) with
        cache := [⟨1, 8, 5, .auth, 0, 0, 3, none, none⟩, ⟨1, 9, 5, .auth, 0, 0, 3, some 64, none⟩,
          ⟨1, 9, 5, .seal, 0, 1, 3, some 64, some .purged⟩, ⟨1, 7, 5, .auth, 0, 0, 3, some 130, none⟩] }).cache
      = [⟨1, 8, 5, .auth, 0, 0, 3, none, none⟩, ⟨1, 9, 5, .auth, 0, 0, 3, none, none⟩,
          ⟨1, 7, 5, .auth, 0, 0, 3, some 130, none⟩] := by decide +kernel

theorem witness_CloseAndLingerEndFree :
    (holding (context (.sealed 6 7))).takes (.close 64) ∧ (handed 0x04 [0, 64]).takes (.close 64) ∧
    (holding (context (.sealed 6 7))).resolveHandle 64 = some (0, context (.sealed 6 7)) ∧
    (after (.lingerEnd 0) { holding (context (.sealed 6 7)) with clock := ⟨some 20002999, 0, 0⟩ }).contexts = [] ∧
    (after (.lingerEnd 0) { holding (context (.sealed 6 7)) with clock := ⟨some 20002998, 0, 0⟩ }).contexts
      = [context (.sealed 6 7)] := ⟨⟨rfl, .inr (.inl rfl)⟩, handed_takes _ _ _ (by decide), by decide +kernel⟩

theorem witness_QueryReadsTheContext :
    (after (.query 64) (holding (context (.live .awaitTag)))).answer = some (.context (context (.live .awaitTag)) .none) ∧
    (after (.query 64) (working .verifying (.verifying 64 5) [.tagProof])).answer
      = some (.context (context (.live .verifying)) .running) ∧
    (after (.query 128) (holding (context (.live .awaitTag)))).answer = some (.refuse (.unknownHandle 128)) := by
  decide +kernel

theorem witness_DeadlineExpiresLiveContexts :
    (after (.deadlineEvent 0) (holding (context (.live .opening)))).queue.records = [.failed 64 7 .expired .opening] ∧
    (after (.deadlineEvent 0) (holding (context (.sealed 6 7)))).queue.records = [] ∧
    (after (.deadlineEvent 0) { holding (context (.live .opening)) with clock := ⟨some 20000998, 0, 0⟩ }).queue.records = []
      := by decide +kernel

/-! The Derived Key Cache -/

/-- A live, unpinned AUTH entry of the tag of the tests. -/
def authEntry : CacheEntry := ⟨1, 9, 5, .auth, 0, 0, 3, none, none⟩

/-- A prefetch job that waits. -/
def prefetchJob (sequence : Nat) : Job := ⟨.prefetch 1 8, [.derive .auth 5 0 3], 20000999, sequence, false, false⟩

theorem witness_PrefetchOutcomes :
    (after (.prefetch 0 9 5) serving).answer = some (.refuse (.badField 0 0)) ∧
    (after (.prefetch 1 9 6) serving).answer = some (.prefetched (.noKey .auth (.keyNotYet .auth 2 6))) ∧
    (after (.prefetch 1 9 5) { serving with slots := serving.slots.set 1 Slot.blank }).answer
      = some (.prefetched (.noKey .seal (.noKey 2 none 5))) ∧
    (after (.prefetch 1 9 5) { serving with cache := [sealEntry, authEntry] }).answer = some (.prefetched .cached) ∧
    (after (.prefetch 1 9 5) { serving with jobs := (List.range 15).map prefetchJob }).answer = some (.prefetched .dropped) ∧
    (after (.prefetch 1 9 5) { serving with jobs := (List.range 14).map prefetchJob, cache := [authEntry] }).answer
      = some (.prefetched (.queued 1)) ∧
    (after (.prefetch 1 9 5) { serving with service := .serviceOff }).answer = some (.refuse .notInService) := by
  decide +kernel

/-- The worked PURGE of 04 on three of its entries: a, b and f. -/
theorem witness_PurgeActsOnItsRange :
    serving.takes (.purge 310 20013 4) ∧
    (after (.purge 310 20013 4)
      { serving with cache := [⟨310, 20003, 5, .auth, 0, 0, 3, none, none⟩, ⟨310, 20009, 5, .auth, 0, 0, 3, some 130, none⟩,
          ⟨310, 20020, 5, .auth, 0, 0, 3, none, none⟩] }).answer = some (.purged 4 20000 1 1) ∧
    (after (.purge 310 7 33) serving).answer = some (.purged 32 0 0 0) ∧
    (after (.purge 0 7 4) serving).answer = some (.refuse (.badField 0 0)) := ⟨serving_takes _, by decide +kernel⟩

theorem witness_InsertionOutcomes :
    (∀ k n, serving.slots[0]? ≠ some ⟨some k, 4, n⟩) ∧
    serving.slots[0]? = some ⟨some (master .auth 5 .active), 3, 0⟩ ∧
    [authEntry].any (CacheEntry.isLiveFor 1 9 5 .auth) = true ∧ ([] : List CacheEntry).any (CacheEntry.isLiveFor 1 9 5 .auth) = false ∧
    (List.replicate 255 sealEntry).length < 256 ∧ 256 ≤ ([sealEntry] ++ sealEntry :: List.replicate 254 { sealEntry with pin := some 64 }).length ∧
    (∀ e ∈ List.replicate 254 { sealEntry with pin := some 64 }, e.pin.isSome = true) := by
  refine ⟨fun k n h => ?_, rfl, by decide, by decide, by decide +kernel, by decide +kernel, by decide +kernel⟩
  have e : serving.slots[0]? = some (slot .auth 5 .active) := rfl
  rw [e] at h
  simp [slot] at h

/-! The Completion Queue, the Stager and the Directory -/

/-- The overflow example of 11: 64 records and the mark set; COLLECT 9 is taken as 7. -/
theorem witness_CollectRemovesTheOldest :
    (after (.collect 9) { serving with queue := ⟨List.replicate 64 (.verified 64 7), true⟩ }).answer
      = some (.collected (List.replicate 7 (.verified 64 7)) 57 true) ∧
    (after (.collect 0) { serving with queue := ⟨[], false⟩ }).answer = some (.collected [] 0 false) := by decide +kernel

theorem witness_StatusReports :
    statusBytes ++ [statusLast] = [0x08, 5] ++ toBytes 2 (crc16 [2, 0x08, 5]).toNat ∧
    (linked .hunting [.request 9 1 [], .request 8 5 []] (.sending 1 .selftestBegun)).link.stage = .sending 1 .selftestBegun ∧
    reported (after .replyComplete (linked .hunting [.request 9 1 [], .request 8 5 []] (.sending 1 .selftestBegun))).link
      = some (5, .serviceOn, some 20000999) := by decide +kernel

/-- A load of 40 bytes, with some received. -/
def load (bytes : List Byte) : Load := ⟨40, 9, bytes⟩

/-- An image of one record, of image id 9, whose window is the lane second 20,000. -/
def image (issuer : Nat) (generation roleAndState : Byte) : List Byte :=
  toBytes 4 9 ++ [1, 1, 0, 0] ++ toBytes 2 issuer ++ [generation, roleAndState] ++ toBytes 4 20000 ++ toBytes 4 20001
    ++ List.replicate 20 0

theorem witness_StagingRequests :
    (after (.stageBegin 40 9) { serving with stager := .committing (load []) }).answer = some (.refuse .busy) ∧
    (after .stageAbandon { serving with stager := .committing (load []) }).answer = some (.refuse .busy) ∧
    (after (.stageBegin 39 9) serving).answer = some (.refuse (.badField 0 0)) ∧
    (after (.stageBegin 8 9) serving).answer = some (.refuse (.badField 0 0)) ∧
    (after (.stageBegin 808 9) serving).answer = some (.refuse (.badField 0 0)) ∧
    (after (.stageBegin 40 9) serving).answer = some (.stageBegun 1 false) ∧
    (after (.stageBegin 776 9) { serving with stager := .receiving (load [1]) }).answer = some (.stageBegun 24 true) ∧
    (after (.stageChunk 0 []) serving).answer = some (.refuse (.badLength 2)) ∧
    (after (.stageChunk 0 (List.replicate 241 0)) serving).answer = some (.refuse (.badLength 243)) ∧
    (after (.stageChunk 0 [7]) serving).answer = some (.refuse .stagingIdle) ∧
    (after (.stageChunk 0 [7]) { serving with stager := .committing (load []) }).answer = some (.refuse .busy) ∧
    (after (.stageChunk 0 [7]) { serving with stager := .receiving (load [1]) }).answer = some (.refuse (.outOfSequence 1)) ∧
    (after (.stageChunk 39 [7, 8]) { serving with stager := .receiving (load (List.replicate 39 1)) }).answer
      = some (.refuse (.overlength 40 39)) ∧
    (after (.stageChunk 39 [7]) { serving with stager := .receiving (load (List.replicate 39 1)) }).answer
      = some (.chunkTaken 40) ∧
    (after .stageAbandon serving).answer = some (.abandoned 0) ∧
    (after .stageAbandon { serving with stager := .receiving (load [1]) }).answer = some (.abandoned 1) := by decide +kernel

/-- The answer to a STAGE_COMMIT with the image's own CRC-32. -/
def committed (s : State) (bytes : List Byte) : Option Answer :=
  (after (.stageCommit (crc32 bytes)) { s with stager := .receiving (load bytes) }).answer

theorem witness_StageCommitOutcomes :
    (after (.stageCommit 0) serving).answer = some (.refuse .stagingIdle) ∧
    (after (.stageCommit 0) { serving with stager := .committing (load []) }).answer = some (.refuse .busy) ∧
    committed serving (List.replicate 39 0) = some (.refuse (.incomplete 39 40)) ∧
    (after (.stageCommit 0) { serving with stager := .receiving (load (image 2 5 0x11)) }).answer
      = some (.refuse (.imageCrc (crc32 (image 2 5 0x11)))) ∧
    committed serving (List.replicate 40 0) = some (.refuse (.badImage none)) ∧
    committed serving (image 2 5 0x13) = some (.refuse (.badImage (some 0))) ∧
    committed serving (image 1 5 0x11) = some (.refuse (.conflict 0 (some 0))) ∧
    committed serving (image 1 7 0x12) = some (.refuse (.conflict 0 (some 1))) ∧
    committed { serving with slots := List.replicate 64 (slot .auth 5 .active) } (image 2 5 0x11)
      = some (.refuse (.directoryFull 1 0)) ∧
    committed { serving with slots := List.replicate 63 (slot .auth 5 .active) ++ [Slot.blank] } (image 2 5 0x11)
      = some (.commitStarted 1 2) := by decide +kernel

theorem witness_ImageChecks :
    imageFault (load (image 2 5 0x13)) = some (some 0) ∧ imageFault (load (image 2 5 0x12)) = none ∧
    firstConflict serving.slots [] (load (image 2 5 0x12)).records = none := by decide +kernel

/-- The refusals that end a load or fail a context, and one that does neither. -/
theorem witness_RefusalsChangeNothing :
    (after (.stageCommit 0) { serving with stager := .receiving (load (image 2 5 0x11)) }).stager = .idle ∧
    (after (.verify 64 5) (holding { context (.live .awaitTag) with authTaint := true })).contexts
      = [{ context (.failed .keyWithdrawn .awaitTag) with authTaint := true, reserved := 0 }] ∧
    (after (.sealTag 64 1 1 1) (holding { context (.live .authenticated) with sealTaint := true })).contexts
      = [{ context (.failed .keyWithdrawn .authenticated) with sealTaint := true, reserved := 0 }] ∧
    (after (.openTag 6 1 9 5 2 9) serving).answer = some (.refuse .laneOff) := by decide +kernel

theorem witness_KeyReadReportsTheSlot :
    (after (.keyRead 0) { serving with service := .halted }).answer
      = some (.keyPresent 0 .active 1 5 .auth 20000 20001 0 3 0) ∧
    (after (.keyRead 63) { serving with service := .serviceOff }).answer = some (.keyAbsent 63) ∧
    (after (.keyRead 64) serving).answer = some (.keyAbsent 64) := by decide +kernel

theorem witness_KeyWithdrawOutcomes :
    (after (.keyWithdraw 0xFFFF 5 3) serving).answer = some (.refuse (.badField 0 0)) ∧
    (after (.keyWithdraw 1 5 0) serving).answer = some (.refuse (.badField 3 0)) ∧
    (after (.keyWithdraw 1 5 4) serving).answer = some (.refuse (.badField 3 0)) ∧
    (after (.keyWithdraw 1 7 1) serving).answer = some (.refuse (.noKey 1 none 7)) ∧
    (after (.keyWithdraw 1 5 3) (holding (context (.sealed 6 7)))).answer = some (.withdrawn [0, 1] 1) := by decide +kernel

/-- A rollover of issuer 1 from generation 5 to generation 6. -/
def rollover (reached : Nat) : Rollover := ⟨1, 5, 6, 0, 1, 2, 3, 20000, 20000, 20000, 20000, reached⟩

theorem witness_WithdrawalEffects :
    (∀ n ∈ [0, 2], (heldAt serving.slots n).isSome = true) ∧
    (({ working .verifying (.verifying 64 5) [.tagProof] with rollovers := [rollover 0] } : State).withdraw [0, 2]).queue.records
      = [.failed 64 7 .keyWithdrawn .verifying, .rolloverPhase 1 5 6 0 .abandoned 0] ∧
    (({ working .verifying (.verifying 64 5) [.tagProof] with
      cache := [⟨1, 8, 5, .auth, 0, 0, 3, none, none⟩, ⟨1, 9, 5, .auth, 0, 0, 3, some 64, none⟩,
        ⟨1, 7, 5, .auth, 0, 0, 3, some 130, none⟩, sealEntry] } : State).withdraw [0, 2]).cache
      = [⟨1, 7, 5, .auth, 0, 0, 3, some 130, some .withdrawn⟩, sealEntry] ∧
    (({ working .verifying (.verifying 64 5) [.tagProof] with
      jobs := [⟨.verifying 64 5, [.tagProof], 20000999, 0, true, true⟩, prefetchJob 1] } : State).withdraw [0, 2]).jobs
      = [prefetchJob 1] := by decide +kernel

/-! Rollover -/

theorem witness_RolloverOutcomes :
    (after (.rollover 1 5 6 0 0 0 0) { serving with clock := ⟨none, 0, 0⟩ }).answer = some (.refuse .noTime) ∧
    (after (.rollover 0 5 6 0 0 0 0) serving).answer = some (.refuse (.badField 0 0)) ∧
    (after (.rollover 1 5 5 0 0 0 0) serving).answer = some (.refuse (.badField 3 0)) ∧
    (after (.rollover 1 5 6 0 10081 10081 0) serving).answer = some (.refuse (.badField 8 0)) ∧
    (after (.rollover 1 5 6 0 10080 10081 0) serving).answer = some (.refuse (.badField 10 0)) ∧
    (after (.rollover 1 5 6 0 0 10080 10081) serving).answer = some (.refuse (.badField 12 0)) ∧
    (after (.rollover 1 5 6 0xFFFFFFFF 1 0 0) serving).answer = some (.refuse (.badField 4 0)) ∧
    (after (.rollover 1 5 6 0 0 0 0) { serving with rollovers := [rollover 1] }).answer
      = some (.refuse (.rolloverConflict 5 6 1)) ∧
    (after (.rollover 2 5 6 0 0 0 0) { serving with rollovers := List.replicate 8 (rollover 1) }).answer
      = some (.refuse .rolloverFull) ∧
    (after (.rollover 1 5 7 0 0 0 0) serving).answer = some (.refuse (.noKey 1 none 7)) ∧
    (after (.rollover 1 6 5 0 0 0 0) serving).answer = some (.refuse (.slotState 2 .standby 6 .auth)) ∧
    (after (.rollover 1 5 7 0 0 0 0) { serving with slots := serving.slots.set 1 Slot.blank }).answer
      = some (.refuse (.noKey 2 none 5)) ∧
    (after (.rollover 1 5 6 0 0 0 0) { serving with slots := setKeyState serving.slots 2 .active }).answer
      = some (.refuse (.slotState 2 .active 6 .auth)) ∧
    (after (.rollover 1 5 6 0 0 0 0) { serving with slots := serving.slots.set 3 Slot.blank }).answer
      = some (.refuse (.noKey 2 none 6)) ∧
    (after (.rollover 1 5 6 0xFFFFFFFF 0 0 0) serving).answer
      = some (.rolloverPlanned 4294967295 4294967295 4294967295 4294967295 0 1 2 3) := by decide +kernel

theorem witness_PhasesAreApplied :
    (after (.phaseDue 1) { serving with rollovers := [rollover 0], clock := ⟨some 19999999, 0, 0⟩ }).rollovers = [rollover 0] ∧
    (after (.phaseDue 1) { serving with rollovers := [rollover 0], clock := ⟨some 20000000, 0, 0⟩ }).rollovers = [rollover 1] ∧
    (after (.phaseDue 1) { serving with rollovers := [rollover 1] }).queue.records
      = [.rolloverPhase 1 5 6 2 .applied 20000] ∧
    (after (.phaseDue 1) { serving with rollovers := [rollover 2] }).rollovers = [rollover 3] ∧
    (after (.phaseDue 1) { serving with rollovers := [rollover 3] }).slots.take 2 = [⟨none, 3, 0⟩, ⟨none, 3, 0⟩] := by
  decide +kernel

theorem witness_RollbackUndoesThePhases :
    serving.takes (.rollback 1) ∧ (rollover 0).lawful serving.slots ∧
    (after (.rollback 1) serving).answer = some (.refuse .noRollover) ∧
    (after (.rollback 0) serving).answer = some (.refuse (.badField 0 0)) ∧
    (after (.rollback 1)
      { serving with
        rollovers := [rollover 3]
        slots := [slot .auth 5 .draining, slot .seal 5 .draining, slot .auth 6 .active, slot .seal 6 .active] }).slots = keys := by
  refine ⟨serving_takes _, ⟨by decide, by decide, ⟨master .auth 5 .active, ?_⟩, ⟨master .seal 5 .active, ?_⟩,
    ⟨master .auth 6 .standby, ?_⟩, ⟨master .seal 6 .standby, ?_⟩⟩, by decide +kernel⟩ <;> decide +kernel

/-! Lane time, lanes, service and the Thermal Monitor -/

theorem witness_TimeSetsStepsOrSlews :
    (after (.time 5) { serving with clock := ⟨none, 0, 0⟩ }).answer = some (.timeTaken .set 5 0) ∧
    (after (.time 20000999) serving).answer = some (.timeTaken .step 20000999 0) ∧
    (after (.time 20000998) serving).answer = some (.timeTaken .slew 20000999 1) ∧
    (after (.time 19998999) serving).answer = some (.timeTaken .slew 20000999 2000) ∧
    (after (.time 19998998) serving).answer = some (.refuse (.timeBackward 20000999)) := by decide +kernel

theorem witness_TicksAdvanceLaneTime :
    (after .laneTimeTick { serving with clock := ⟨none, 0, 4⟩ }).clock = ⟨none, 0, 5⟩ ∧
    (after .laneTimeTick { serving with clock := ⟨some 281474976710654, 1, 4⟩ }).clock = ⟨some 281474976710655, 0, 6⟩ ∧
    (after .laneTimeTick { serving with clock := ⟨some 281474976710655, 0, 4⟩ }).clock = ⟨some 281474976710655, 0, 5⟩ ∧
    (998500 + (⟨some 1000000, 1500, 0⟩ : LaneClock).debt = 1000000) := by decide +kernel

theorem witness_LanesAndConfig :
    serving.takes (.lanes 0x81 0x80) ∧ serving.takes (.config 7 0 200 255 255 9) ∧
    (after (.lanes 0x81 0x80) serving).answer = some (.refuse (.badField 0 0x80)) ∧
    (after (.lanes 0x01 0x80) (holding (context (.live .opening)))).answer = some (.lanes 0x01) ∧
    (after (.lanes 0x01 0x80) (holding (context (.live .opening)))).queue.records = [.failed 64 7 .laneOff .opening] ∧
    (after (.config 7 0 200 255 255 9) serving).settings = ⟨7, 1, 100, 110, 105, 3⟩ :=
  ⟨serving_takes _, serving_takes _, by decide +kernel⟩

theorem witness_ServiceOnAndOff :
    (after .serviceOn serving).answer = some (.service .serviceOn 0) ∧
    (after .serviceOn { serving with service := .serviceOff, test := some .request }).answer = some (.refuse .busy) ∧
    (after .serviceOn { serving with service := .serviceOff, clock := ⟨none, 0, 0⟩ }).answer = some (.refuse .noTime) ∧
    (after .serviceOn { serving with service := .serviceOff }).service = .serviceOn ∧
    (after .serviceOff { serving with service := .serviceOff }).answer = some (.service .serviceOff 0) ∧
    (after .serviceOff (holding (context (.live .opening)))).answer = some (.service .serviceOff 1) := by decide +kernel

/-- E⁻¹ of the known answer is the test block, whatever the cipher is: a unit without a fault passes, and a unit with one
inverted output bit fails (R123). -/
theorem test_selftest_compares :
    passesTest ⟨0, 0⟩ = true ∧ passesTest ⟨1, 0⟩ = false ∧ passesTest ⟨0, 1⟩ = false := by
  simp [passesTest, testForward, testInverse, encipher, decipher, Config.testOutput]

theorem witness_SelftestAndRestart :
    (after .selftest serving).answer = some (.refuse .serviceState) ∧
    (after .selftest { serving with service := .serviceOff, suspended := true }).answer = some (.refuse .thermal) ∧
    (after .selftest { serving with service := .serviceOff, u1 := ⟨.good, .parked, .testing⟩ }).answer = some (.refuse .busy) ∧
    (after .selftest { serving with service := .serviceOff }).answer = some .selftestBegun ∧
    (after .restart { serving with service := .halted }).restarting = true ∧
    serving.test = none ∧ State.reset.test = some .startUp := by decide +kernel

/-- The table of R124, by the results of the two units. -/
theorem test_serviceAfterTest :
    serviceAfterTest .starting .startUp true true = .serviceOff ∧ serviceAfterTest .starting .startUp false true = .serviceOff ∧
    serviceAfterTest .starting .startUp false false = .halted ∧ serviceAfterTest .serviceOff .request true false = .serviceOff ∧
    serviceAfterTest .serviceOff .request false false = .halted := by decide

theorem witness_WindowEndAndPrefetchExpiry :
    (after .windowEnd { serving with clock := ⟨none, 0, 0⟩ }).slots.take 4 = keys ∧
    (after .windowEnd serving).slots.take 4 = keys ∧
    (after .windowEnd { serving with clock := ⟨some 20001000, 0, 0⟩ }).slots.take 4 = List.replicate 4 ⟨none, 3, 0⟩ ∧
    (after (.prefetchExpiry 0) { serving with jobs := [prefetchJob 0], clock := ⟨some 20001998, 0, 0⟩ }).jobs = [prefetchJob 0] ∧
    (after (.prefetchExpiry 0) { serving with jobs := [prefetchJob 0], clock := ⟨some 20001999, 0, 0⟩ }).jobs = [] := by
  decide +kernel

/-- The hot afternoon of 10, and the edges of the first two cases. -/
theorem witness_ReadingsDecideTheThermalState :
    (after (.thermalReading 300) { serving with thermal := ⟨none, 255, 1, .normal⟩ }).thermal = ⟨some 125, 255, 2, .suspended⟩ ∧
    (after (.thermalReading 85) { serving with thermal := ⟨some 86, 0, 0, .throttled⟩ }).thermal = ⟨some 85, 0, 0, .normal⟩ ∧
    (after (.thermalReading 86) { serving with thermal := ⟨some 86, 0, 0, .suspended⟩ }).thermal = ⟨some 86, 0, 0, .suspended⟩ ∧
    (after (.thermalReading 95) { serving with thermal := ⟨some 96, 1, 0, .normal⟩ }).thermal = ⟨some 95, 0, 0, .normal⟩ ∧
    (after (.thermalReading 97) { serving with thermal := ⟨some 96, 1, 0, .normal⟩ }).thermal = ⟨some 97, 2, 0, .throttled⟩ ∧
    (after (.thermalReading 115) { serving with thermal := ⟨some 97, 2, 1, .throttled⟩ }).thermal = ⟨some 115, 3, 2, .suspended⟩ ∧
    (after (.thermalReading (-41)) serving).thermal.lastReading = some (-40) := by decide +kernel

/-! The Cipher Engine -/

theorem working_runs (state : LiveState) (work : Work) (operations : List Operation) :
    (working state work operations).runs .u0 none ⟨work, operations, 20000999, 0, true, true⟩ :=
  ⟨rfl, rfl, by simp [working], by simp [working]⟩

theorem working_resolves (state : LiveState) (work : Work) (operations : List Operation) :
    (working state work operations).resolveHandle 64 = some (0, context (.live state)) := rfl

/-- The work of an OPEN job of the context. -/
def opening : Work := .opening 64 1 9 2 3

/-- The seal record of the context. -/
def record : SealRecord := ⟨9, 1, 5, 5, 0, 7, 1, 1, 1, 20000999⟩

theorem witness_OpenAndVerifyJobOperations_open :
    (working .opening opening [.derive .auth 5 0 3, .readerProof]).runs .u0 none
      ⟨opening, [.derive .auth 5 0 3, .readerProof], 20000999, 0, true, true⟩ ∧
    (working .opening opening [.readerProof]).runs .u0 none ⟨opening, [.readerProof], 20000999, 0, true, true⟩ ∧
    (working .opening opening []).resolveHandle 64 = some (0, context (.live .opening)) ∧
    ((working .opening opening []).unit .u0).serves (working .opening opening []).suspended = true :=
  ⟨working_runs _ _ _, working_runs _ _ _, working_resolves _ _ _, rfl⟩

/-- Whatever the cipher gives, one proof matches and another does not. -/
theorem witness_OpenAndVerifyJobOperations_verify (proof : Half) :
    (working .verifying (.verifying 64 proof) [.tagProof]).runs .u0 none
      ⟨.verifying 64 proof, [.tagProof], 20000999, 0, true, true⟩ ∧
    (working .verifying (.verifying 64 proof) [.tagProof]).resolveHandle 64 = some (0, context (.live .verifying)) ∧
    (∃ p, lastHalf (encipher (pinnedKey serving.cache 64 .auth) (3#64 ++ 2#64)) = p) ∧
    (∃ p, lastHalf (encipher (pinnedKey serving.cache 64 .auth) (3#64 ++ 2#64)) ≠ p) :=
  ⟨working_runs _ _ _, working_resolves _ _ _, ⟨_, rfl⟩,
    ⟨lastHalf (encipher (pinnedKey serving.cache 64 .auth) (3#64 ++ 2#64)) + 1, by bv_omega⟩⟩

theorem witness_SealJobOperations :
    (working .sealing (.sealing 64 record none) [.derive .seal 5 1 3, .sealFirst, .sealSecond]).runs .u0 none
      ⟨.sealing 64 record none, [.derive .seal 5 1 3, .sealFirst, .sealSecond], 20000999, 0, true, true⟩ ∧
    (working .sealing (.sealing 64 record none) [.sealFirst, .sealSecond]).runs .u0 none
      ⟨.sealing 64 record none, [.sealFirst, .sealSecond], 20000999, 0, true, true⟩ ∧
    (working .sealing (.sealing 64 record (some 7)) [.sealSecond]).runs .u0 none
      ⟨.sealing 64 record (some 7), [.sealSecond], 20000999, 0, true, true⟩ ∧
    (working .sealing (.sealing 64 record none) []).resolveHandle 64 = some (0, context (.live .sealing)) :=
  ⟨working_runs _ _ _, working_runs _ _ _, working_runs _ _ _, working_resolves _ _ _⟩

/-- A load whose image holds one record of issuer 2. -/
def loaded : Load := load (image 2 5 0x12)

theorem witness_KeysetJobOperations :
    (working .opening (.keyset loaded [] []) [.unwrap 0, .check 0]).runs .u0 none
      ⟨.keyset loaded [] [], [.unwrap 0, .check 0], 20000999, 0, true, true⟩ ∧
    (working .opening (.keyset loaded [0] [false]) [.check 0, .check 0]).runs .u0 none
      ⟨.keyset loaded [0] [false], [.check 0, .check 0], 20000999, 0, true, true⟩ ∧
    (working .opening (.keyset loaded [0] []) [.check 0]).runs .u0 none
      ⟨.keyset loaded [0] [], [.check 0], 20000999, 0, true, true⟩ ∧
    (∃ transport, serving.transport = some transport) ∧ ([0] : List Key)[0]? = some 0 ∧
    firstConflict serving.slots [] loaded.records = none ∧ (loaded.declared - 8) / 32 ≤ emptySlots serving.slots ∧
    ([] : List (ImageRecord × Key)).length ≤ emptySlots (List.replicate 1 Slot.blank) ∧
    ([(imageRecord loaded.buffer 0, 0)] : List (ImageRecord × Key)).length ≤ emptySlots (List.replicate 1 Slot.blank) :=
  ⟨working_runs _ _ _, working_runs _ _ _, working_runs _ _ _, ⟨_, rfl⟩, by decide +kernel⟩

/-- The four bytes of a check value. -/
def checkValueBytes (v : BitVec 32) : List Byte := [v.extractLsb' 24 8, v.extractLsb' 16 8, v.extractLsb' 8 8, v.extractLsb' 0 8]

/-- The load of an image of one record of issuer 2 with the check value of the key 0, whatever the cipher is. -/
def passing : Load := load ((image 2 5 0x12).take 36 ++ checkValueBytes (checkBytes (encipher 0 0)))

/-- The last operation of a commit that fails, and of one that passes. -/
theorem witness_KeysetJobOperations_outcomes :
    (∀ b : Bool, ([false] ++ [b])[0]? = some false) ∧
    (imageRecord passing.buffer 0).checkValue = checkBytes (encipher 0 0) ∧
    firstConflict serving.slots [] passing.records = none ∧ (passing.declared - 8) / 32 ≤ emptySlots serving.slots := by
  refine ⟨fun _ => rfl, ?_, by decide +kernel, by decide +kernel⟩
  have general : ∀ v : BitVec 32, BitVec.ofNat 32 (fromBytes (checkValueBytes v)) = v := by
    intro v
    simp only [fromBytes, checkValueBytes, List.foldl, BitVec.extractLsb'_toNat, Nat.shiftRight_eq_div_pow]
    apply BitVec.eq_of_toNat_eq
    simp only [BitVec.toNat_ofNat]
    omega
  exact general _

theorem witness_PrefetchedDiscardedAndReturned :
    ({ serving with u0 := ⟨.good, .inService, .running 7 none⟩ } : State).jobs = [] ∧
    serving.u0.activity = .free ∧ (serving.setU1 ⟨.failed, .parked, .testing⟩).u1.activity = .testing ∧
    (working .opening (.prefetch 1 8) [.derive .auth 5 0 3]).runs .u0 none
      ⟨.prefetch 1 8, [.derive .auth 5 0 3], 20000999, 0, true, true⟩ ∧
    (working .opening (.prefetch 1 8) [.derive .auth 5 0 3, .derive .seal 5 1 3]).runs .u0 none
      ⟨.prefetch 1 8, [.derive .auth 5 0 3, .derive .seal 5 1 3], 20000999, 0, true, true⟩ ∧
    ((working .opening (.prefetch 1 8) []).unit .u0).serves (working .opening (.prefetch 1 8) []).suspended = true ∧
    ((working .opening opening [.derive .auth 5 0 3, .readerProof]).setSuspended true).runs .u0 none
      ⟨opening, [.derive .auth 5 0 3, .readerProof], 20000999, 0, true, true⟩ ∧
    (⟨opening, [.derive .auth 5 0 3, .readerProof], 20000999, 0, true, true⟩ : Job).suits :=
  ⟨rfl, rfl, rfl, working_runs _ _ _, working_runs _ _ _, rfl, ⟨rfl, rfl, by simp [working], by simp [working]⟩,
    .inl ⟨5, 0, 3, rfl⟩⟩

/-- A LANE job goes before an earlier prefetch job; equal deadlines go by sequence. -/
theorem witness_ArbiterOrder :
    nextJob [prefetchJob 0, ⟨opening, [.readerProof], 5, 2, false, false⟩, ⟨opening, [.readerProof], 5, 1, false, false⟩]
      = some ⟨opening, [.readerProof], 5, 1, false, false⟩ ∧
    nextJob [prefetchJob 1, prefetchJob 0] = some (prefetchJob 0) ∧
    serving.u0.serves serving.suspended = true ∧ serving.u0.activity = .free ∧
    (({ serving with jobs := [prefetchJob 0, prefetchJob 1, prefetchJob 2] } : State).arbitrate.jobs.map (·.running))
      = [true, true, false] := by decide +kernel

/-! Resets -/

theorem witness_ResetsAndZeroize :
    (after .powerOn { serving with power := .noSupply }).power = .inReset ∧
    (after .resetNLow serving).power = .inReset ∧
    (after (.resetEnd true false) { serving with power := .inReset }).service = .starting ∧
    (after (.resetEnd true false) { serving with power := .inReset, zeroizedMark := true }).service = .zeroized ∧
    (after .zeroize { serving with power := .inReset }).service = .zeroized ∧ serving.zeroizedMark = false := by decide +kernel

theorem witness_PinsAndLineRate :
    serving.takes (.collect 7) ∧
    (after (.collect 7) { serving with queue := ⟨List.replicate 8 (.verified 64 7), false⟩ }).attn = true ∧
    (after (.collect 8) { serving with queue := ⟨List.replicate 7 (.verified 64 7), false⟩ }).attn = false ∧
    (after .serviceOn { serving with service := .serviceOff }).ready = true ∧ (after .serviceOff serving).ready = false ∧
    (after .zeroize { serving with queue := ⟨[.verified 64 7], false⟩ }).attn = false ∧
    (after (.resetEnd false true) { serving with power := .inReset }).baud = 921600 ∧
    (∀ rate1 rate0, Instr.status ≠ .resetEnd rate1 rate0) := ⟨serving_takes _, by decide +kernel⟩

/-! The laws: a part that opens a tag, with a rollover under way, meets them all, and its step gives a next state. -/

/-- A part whose OPEN job runs: both bindings count and both entries are cached, the SEAL entry pinned. -/
def opened : State :=
  { working .opening opening [.derive .auth 5 0 3, .readerProof] with
    slots := [{ slot .auth 5 .active with bound := 1 }, { slot .seal 5 .active with bound := 1 }]
      ++ List.replicate 62 Slot.blank
    cache := [{ sealEntry with pin := some 64 }]
    pending := [.operationComplete .u0] }

theorem opened_steps : ∃ t, step opened = .next t := ⟨_, rfl⟩

/-- The only context of that part stands at index 0. -/
theorem opened_contextAt (i : Nat) (c : Context) (h : opened.contextAt i = some c) :
    i = 0 ∧ c = context (.live .opening) := by
  cases i with
  | zero => exact ⟨rfl, (Option.some.inj h).symm⟩
  | succ n =>
    have e : opened.contextAt (n + 1) = ((List.replicate 47 Place.fresh)[n]?).bind (·.context) := rfl
    rw [e, List.getElem?_replicate] at h
    split at h <;> simp [Place.fresh] at h

theorem witness_WorkQueueLawsAreKept : opened.workLawful ∧ opened.tagsUnique ∧ ∃ t, step opened = .next t := by
  refine ⟨⟨by decide +kernel, fun i c h => ?_, fun j m h o => ?_, by decide +kernel, by decide +kernel, by decide +kernel,
    fun j m => ?_⟩, fun i j c d hi hj _ _ _ _ => ?_, opened_steps⟩
  · obtain ⟨rfl, rfl⟩ := opened_contextAt i c h
    rfl
  · simp only [opened, working, List.mem_singleton] at m
    subst m
    cases o
    exact ⟨0, context (.live .opening), .opening, rfl, rfl, rfl⟩
  · simp only [opened, working, List.mem_singleton] at m
    subst m
    exact .inl ⟨5, 0, 3, rfl⟩
  · rw [(opened_contextAt i c hi).1, (opened_contextAt j d hj).1]

theorem opened_bounds : ∀ i < 64, (opened.slots[i]?).map (·.bound) = some (opened.bindings i) := by decide +kernel

theorem witness_BoundCountsCountBindings : opened.boundsLawful ∧ opened.workLawful ∧ ∃ t, step opened = .next t := by
  refine ⟨⟨fun i x h => ?_, fun c m => ?_⟩, witness_WorkQueueLawsAreKept.1, opened_steps⟩
  · have lt : i < 64 := (List.getElem?_eq_some_iff.mp h).1
    have e := opened_bounds i lt
    rw [h] at e
    exact Option.some.inj e
  · have e : opened.contexts = [context (.live .opening)] := by decide +kernel
    rw [e, List.mem_singleton] at m
    subst m
    exact ⟨fun _ => ⟨{ slot .auth 5 .active with bound := 1 }, rfl, rfl, rfl⟩,
      fun _ => ⟨{ slot .seal 5 .active with bound := 1 }, rfl, rfl, rfl⟩⟩

theorem witness_CacheLawsAreKept : opened.cacheLawful ∧ opened.workLawful ∧ ∃ t, step opened = .next t := by
  have only : ∀ e ∈ opened.cache, e = { sealEntry with pin := some 64 } := by simp [opened]
  refine ⟨⟨List.pairwise_singleton _ _, fun e m _ => ?_, fun e m d => ?_, fun e m h p => ?_⟩,
    witness_WorkQueueLawsAreKept.1, opened_steps⟩
  · rw [only e m]
    exact ⟨{ slot .seal 5 .active with bound := 1 }, rfl, rfl, rfl⟩
  · rw [only e m] at d
    simp [sealEntry] at d
  · rw [only e m] at p ⊢
    cases p
    exact ⟨0, context (.live .opening), .opening, rfl, rfl, fun r => by simp [sealEntry] at r⟩

theorem witness_DirectoryLawsAreKept :
    ({ serving with rollovers := [rollover 0], pending := [.phaseDue 1] } : State).directoryLawful ∧
    (∃ t, step { serving with rollovers := [rollover 0], pending := [.phaseDue 1] } = .next t) ∧
    (after (.phaseDue 1) { serving with rollovers := [rollover 0] }).rollovers = [rollover 1] := by
  refine ⟨⟨keys_lawful.1, keys_lawful.2, fun r m => ?_, List.pairwise_singleton _ _⟩, ⟨_, rfl⟩, by decide +kernel⟩
  rw [List.mem_singleton.mp m]
  exact witness_RollbackUndoesThePhases.2.1

theorem witness_CapacitiesAreKept :
    (opened.tablesSized ∧ opened.queueBounded ∧ opened.cacheBounded ∧ opened.rolloversBounded ∧ opened.linkBounded
      ∧ opened.jobsLawful) ∧ ∃ t, step opened = .next t := ⟨by decide +kernel, opened_steps⟩

theorem witness_RangesAreKept :
    (opened.clock.lawful ∧ opened.stager.lawful ∧ opened.settings.lawful ∧ opened.thermal.lawful ∧ opened.engineAgrees
      ∧ opened.serviceTimed ∧ opened.reservedLawful) ∧ (∃ t, step opened = .next t) ∧
    (after (.time 20001000) opened).clock.time = some 20001000 := by
  refine ⟨⟨by decide +kernel, trivial, by decide +kernel, by decide +kernel, by decide +kernel, by decide +kernel,
    fun i c h live => ?_⟩, opened_steps, by decide +kernel⟩
  rw [(opened_contextAt i c h).2] at live
  simp [context, Context.isLive] at live

/-- A part in which the cause of each clause is at hand: the SEAL of an AUTHENTICATED context is taken. -/
theorem witness_SealedOnlyAfterAMatchingProof :
    opened.workLawful ∧
    ((after (.sealTag 64 1 1 1) (holding (context (.live .authenticated)))).contexts.map (·.state)) = [.live .sealing] ∧
    ((after .status (holding (context (.sealed 6 7)))).contexts.map (·.state)) = [.sealed 6 7] ∧
    ((after .status (holding (context (.live .authenticated)))).contexts.map (·.state)) = [.live .authenticated] :=
  ⟨witness_WorkQueueLawsAreKept.1, by decide +kernel⟩

/-- Two parts that differ in a key only. -/
theorem witness_KeysStayInside :
    (∀ name, Instr.keyRead 0 ≠ .operationComplete name) ∧
    ({ serving with cache := [sealEntry] } : State).veiled = ({ serving with cache := [{ sealEntry with key := 1 }] } : State).veiled ∧
    ({ serving with cache := [sealEntry] } : State) ≠ { serving with cache := [{ sealEntry with key := 1 }] } ∧
    ∃ t, exec (.keyRead 0) { serving with cache := [sealEntry] } = .next t :=
  ⟨fun _ => nofun, rfl, fun h => absurd (congrArg State.cache h) (by decide), ⟨_, rfl⟩⟩

theorem witness_ProtectedStoreWriters :
    (Instr.status.writesSlots = false ∧ Instr.status.writesRollovers = false ∧ Instr.status.writesTransport = false) ∧
    ∃ t, exec .status serving = .next t := ⟨by decide, ⟨_, rfl⟩⟩

end Sys2Proof.Tests
end

/-! Ranges (R21, R102, R111, R137, R144, R146, R152, R155): a command either leaves the fields that the laws of the ranges speak
of, or is one of the few that write them, and then writes a value in range. -/

namespace Sys2Proof.Machine.Ranges

/-! ### The laws of the ranges together -/

/-- The laws of the ranges. -/
structure Ranged (s : State) : Prop where
  clock : s.clock.lawful
  stager : s.stager.lawful
  settings : s.settings.lawful
  thermal : s.thermal.lawful
  engine : s.engineAgrees
  timed : s.serviceTimed
  reserved : s.reservedLawful

/-- What every command owes: the ranges hold after it, and lane time has not gone back (R137). -/
def Kept (s t : State) : Prop :=
  Ranged t ∧ ∀ a b, s.clock.time = some a → t.clock.time = some b → a ≤ b

/-- A change that leaves the fields of the laws alone, the contexts apart. A load may end and SERVICE_ON may be left, since
no law is about what comes then. -/
structure Steady (s t : State) : Prop where
  clock : t.clock = s.clock
  stager : t.stager = s.stager ∨ t.stager = .idle
  settings : t.settings = s.settings
  thermal : t.thermal = s.thermal
  suspended : t.suspended = s.suspended
  placement0 : t.u0.placement = s.u0.placement
  placement1 : t.u1.placement = s.u1.placement
  service : t.service = .serviceOn → s.service = .serviceOn

theorem Steady.refl (s : State) : Steady s s := by constructor <;> simp

theorem Steady.trans {s t u : State} (h : Steady s t) (k : Steady t u) : Steady s u where
  clock := k.clock.trans h.clock
  stager := k.stager.elim (fun e => e ▸ h.stager) .inr
  settings := k.settings.trans h.settings
  thermal := k.thermal.trans h.thermal
  suspended := k.suspended.trans h.suspended
  placement0 := k.placement0.trans h.placement0
  placement1 := k.placement1.trans h.placement1
  service := h.service ∘ k.service

theorem Kept.refl {s : State} (r : Ranged s) : Kept s s :=
  ⟨r, fun a b ha hb => by simp_all⟩

/-- A steady change keeps the ranges when it keeps the law of the reserved operations. -/
theorem Steady.kept {s t : State} (h : Steady s t) (r : Ranged s) (reserved : t.reservedLawful) : Kept s t := by
  refine ⟨⟨h.clock ▸ r.clock, ?_, h.settings ▸ r.settings, h.thermal ▸ r.thermal, ?_, ?_, reserved⟩, ?_⟩
  · rcases h.stager with e | e <;> rw [e]
    · exact r.stager
    · trivial
  · simpa only [State.engineAgrees, h.placement0, h.placement1, h.thermal, h.suspended] using r.engine
  · intro on
    rw [h.clock]
    exact r.timed (h.service on)
  · intro a b ha hb
    simp_all [h.clock]

/-! ### The law of the reserved operations (R102) -/

/-- The law of R102 on one context. -/
def ReservedOk (c : Context) : Prop := c.isLive = false → c.reserved = 0

/-- The law of R102 on the indices of a table. -/
def ReservedIn (places : List Place) : Prop :=
  ∀ (i : Nat) (c : Context), (places[i]?).bind (·.context) = some c → ReservedOk c

theorem reservedLawful_iff (s : State) : s.reservedLawful ↔ ReservedIn s.places := Iff.rfl

theorem reservedOk_of_live {c : Context} {l : LiveState} (h : c.state = .live l) : ReservedOk c := by
  simp [ReservedOk, Context.isLive, h]

theorem reservedOk_of_zero {c : Context} (h : c.reserved = 0) : ReservedOk c := fun _ => h

theorem reservedIn_fresh (n : Nat) : ReservedIn (List.replicate n Place.fresh) := by
  intro i c h
  obtain ⟨p, hp, hc⟩ := Option.bind_eq_some_iff.mp h
  obtain ⟨-, rfl⟩ := List.mem_replicate.mp (List.mem_of_getElem? hp)
  simp [Place.fresh] at hc

theorem ReservedIn.modify {places : List Place} (h : ReservedIn places) (i : Nat) {f : Place → Place}
    (keeps : ∀ p c, (∀ d, p.context = some d → ReservedOk d) → (f p).context = some c → ReservedOk c) :
    ReservedIn (places.modify i f) := by
  intro j c hc
  obtain ⟨q, hq, hqc⟩ := Option.bind_eq_some_iff.mp hc
  obtain ⟨p, hp, rfl⟩ := Option.map_eq_some_iff.mp (List.getElem?_modify f i places j ▸ hq)
  have old : ∀ d, p.context = some d → ReservedOk d := fun d hd => h j d (by simp [hp, hd])
  split at hqc
  · exact keeps p c old hqc
  · exact old c hqc

theorem ReservedIn.modifyContext {places : List Place} (h : ReservedIn places) (i : Nat) {f : Context → Context}
    (keeps : ∀ c, ReservedOk c → ReservedOk (f c)) :
    ReservedIn (places.modify i fun p => { p with context := p.context.map f }) := by
  refine h.modify i fun p c old hc => ?_
  obtain ⟨d, hd, rfl⟩ := Option.map_eq_some_iff.mp hc
  exact keeps d (old d hd)

theorem ReservedIn.mapContext {places : List Place} (h : ReservedIn places) {f : Context → Context}
    (keeps : ∀ c, ReservedOk c → ReservedOk (f c)) :
    ReservedIn (places.map fun p => { p with context := p.context.map f }) := by
  intro i c hc
  simp only [List.getElem?_map, Option.bind_map, Option.bind_eq_some_iff, Function.comp_apply, Option.map_eq_some_iff] at hc
  obtain ⟨p, hp, d, hd, rfl⟩ := hc
  exact keeps d (h i d (by simp [hp, hd]))

theorem ReservedIn.set {places : List Place} (h : ReservedIn places) (i u : Nat) {c : Context} (new : ReservedOk c) :
    ReservedIn (places.set i ⟨u, some c⟩) := by
  intro j d hd
  rw [List.getElem?_set] at hd
  split at hd
  · split at hd
    · cases hd; exact new
    · cases hd
  · exact h j d hd

theorem reservedLawful_failContext {s : State} (h : s.reservedLawful) (i : Nat) (reason : FailReason) (posted : Bool) :
    (s.failContext i reason posted).reservedLawful := by
  have failed (l : LiveState) :=
    ReservedIn.modifyContext h i (f := fun c => { c with state := .failed reason l, reserved := 0 })
      fun c _ => reservedOk_of_zero rfl
  unfold State.failContext
  split
  · split
    · split <;> simpa [reservedLawful_iff, State.updateContext] using failed _
    · exact h
    · exact h
  · exact h

theorem reservedLawful_failEach {s : State} (h : s.reservedLawful) (indices : List Nat) (reason : FailReason) :
    (s.failEach indices reason).reservedLawful := by
  induction indices generalizing s with
  | nil => exact h
  | cons i rest ih => exact ih (reservedLawful_failContext h i reason true)

theorem reservedLawful_freeContext {s : State} (h : s.reservedLawful) (i : Nat) (c : Context) :
    (s.freeContext i c).reservedLawful :=
  ReservedIn.modify h i fun p d _ hd => by cases hd

theorem reservedLawful_withdraw {s : State} (h : s.reservedLawful) (withdrawn : List Nat) :
    (s.withdraw withdrawn).reservedLawful := by
  have tainted : ReservedIn (s.places.map fun p =>
      { p with context := p.context.map (Context.tainted s.slots withdrawn) }) :=
    ReservedIn.mapContext h fun c ok => ok
  simpa [reservedLawful_iff, State.withdraw] using reservedLawful_failEach (s := State.setPlaces _ _) tainted _ _

/-! ### The placements of the units (R111) -/

@[simp] theorem setUnit_placement0 (s : State) (name : UnitName) (v : CipherUnit)
    (h : v.placement = (s.unit name).placement) : (s.setUnit name v).u0.placement = s.u0.placement := by
  cases name
  · exact h
  · rfl

@[simp] theorem setUnit_placement1 (s : State) (name : UnitName) (v : CipherUnit)
    (h : v.placement = (s.unit name).placement) : (s.setUnit name v).u1.placement = s.u1.placement := by
  cases name
  · rfl
  · exact h

theorem unit_setJobs (s : State) (jobs : List Job) (name : UnitName) : (s.setJobs jobs).unit name = s.unit name := by
  cases name <;> rfl

theorem takeNext_steady (s : State) (name : UnitName) : Steady s (s.takeNext name) := by
  rcases s.takeNext_cases name with ⟨e, -⟩ | ⟨j, -, -, e⟩ <;> rw [e]
  · exact .refl s
  · constructor <;> simp [unit_setJobs]

theorem arbitrate_steady (s : State) : Steady s s.arbitrate :=
  (takeNext_steady s .u0).trans (takeNext_steady _ .u1)

@[simp] theorem arbitrate_placement0 (s : State) : s.arbitrate.u0.placement = s.u0.placement := (arbitrate_steady s).placement0

@[simp] theorem arbitrate_placement1 (s : State) : s.arbitrate.u1.placement = s.u1.placement := (arbitrate_steady s).placement1

@[simp] theorem freeUnit_placement0 (s : State) (name : UnitName) :
    (s.freeUnit name).u0.placement = s.u0.placement := setUnit_placement0 s name _ rfl

@[simp] theorem freeUnit_placement1 (s : State) (name : UnitName) :
    (s.freeUnit name).u1.placement = s.u1.placement := setUnit_placement1 s name _ rfl

/-! ### The owners' events that leave the fields of the laws alone -/

theorem ownOpen_kept {s : State} (r : Ranged s) (lane issuer serial generation nonce dwell) :
    Kept s (ownOpen lane issuer serial generation nonce dwell s).1 := by
  unfold ownOpen
  split
  · exact .refl r
  · refine Steady.kept (by constructor <;> simp [State.takeOpen]) r ?_
    simpa [reservedLawful_iff, State.takeOpen] using ReservedIn.set r.reserved _ _ (reservedOk_of_live rfl)

theorem ownVerify_kept {s : State} (r : Ranged s) (handle proof) : Kept s (ownVerify handle proof s).1 := by
  unfold ownVerify
  split
  · exact .refl r
  split
  · exact .refl r
  split
  · exact .refl r
  split
  · exact Steady.kept (by constructor <;> simp) r (reservedLawful_failContext r.reserved _ _ _)
  · refine Steady.kept (by constructor <;> simp) r ?_
    simpa [reservedLawful_iff, State.updateContext] using
      ReservedIn.modifyContext r.reserved _ fun c _ => reservedOk_of_live rfl

theorem ownSeal_kept {s : State} (r : Ranged s) (handle vehicleClass charge sequence) :
    Kept s (ownSeal handle vehicleClass charge sequence s).1 := by
  unfold ownSeal
  split
  · exact .refl r
  split
  · exact .refl r
  split
  · exact .refl r
  split
  · exact .refl r
  split
  · exact .refl r
  split
  · exact Steady.kept (by constructor <;> simp) r (reservedLawful_failContext r.reserved _ _ _)
  · refine Steady.kept (by constructor <;> simp [State.takeSeal]) r ?_
    simpa [reservedLawful_iff, State.takeSeal, State.updateContext] using
      ReservedIn.modifyContext r.reserved _ fun c _ => reservedOk_of_live rfl

theorem ownClose_kept {s : State} (r : Ranged s) (handle) : Kept s (ownClose handle s).1 := by
  unfold ownClose
  split
  · exact .refl r
  · exact Steady.kept (by constructor <;> simp) r (reservedLawful_freeContext r.reserved _ _)

theorem ownPrefetch_kept {s : State} (r : Ranged s) (issuer serial generation) :
    Kept s (ownPrefetch issuer serial generation s).1 := by
  unfold ownPrefetch State.prefetchResolved
  dsimp only
  repeat' split
  all_goals exact Steady.kept (by constructor <;> simp) r (by simpa [reservedLawful_iff] using r.reserved)

theorem ownKeyWithdraw_kept {s : State} (r : Ranged s) (issuer generation roles) :
    Kept s (ownKeyWithdraw issuer generation roles s).1 := by
  unfold ownKeyWithdraw
  dsimp only
  split
  · exact .refl r
  split
  · exact .refl r
  split
  · exact .refl r
  · exact Steady.kept (by constructor <;> simp) r (reservedLawful_withdraw r.reserved _)

theorem ownLanes_kept {s : State} (r : Ranged s) (setMask clearMask) : Kept s (ownLanes setMask clearMask s).1 := by
  unfold ownLanes
  split
  · exact .refl r
  · exact Steady.kept (by constructor <;> simp) r (reservedLawful_failEach (by exact r.reserved) _ _)

theorem ownServiceOff_kept {s : State} (r : Ranged s) : Kept s (ownServiceOff s).1 := by
  unfold ownServiceOff
  split
  · refine Steady.kept (by constructor <;> simp) r ?_
    exact reservedLawful_failEach (s := s.setService .serviceOff) r.reserved _ _
  · exact .refl r

theorem ownRollover_kept {s : State} (r : Ranged s) (issuer a b start d1 d2 d3) :
    Kept s (ownRollover issuer a b start d1 d2 d3 s).1 := by
  unfold ownRollover
  dsimp only
  repeat' split
  all_goals exact Steady.kept (by constructor <;> simp) r r.reserved

theorem ownRollback_kept {s : State} (r : Ranged s) (issuer) : Kept s (ownRollback issuer s).1 := by
  unfold ownRollback
  repeat' split
  all_goals exact Steady.kept (by constructor <;> simp) r (by simpa [reservedLawful_iff] using r.reserved)

theorem ownSelftest_kept {s : State} (r : Ranged s) : Kept s (ownSelftest s).1 := by
  unfold ownSelftest
  repeat' split
  all_goals exact Steady.kept (by constructor <;> simp [State.beginTest]) r r.reserved

theorem ownKeyRead_kept {s : State} (r : Ranged s) (index) : Kept s (ownKeyRead index s).1 := by
  unfold ownKeyRead
  split <;> exact .refl r

theorem ownQuery_kept {s : State} (r : Ranged s) (handle) : Kept s (ownQuery handle s).1 := by
  unfold ownQuery
  split <;> exact .refl r

theorem ownPurge_kept {s : State} (r : Ranged s) (issuer base exponent) :
    Kept s (ownPurge issuer base exponent s).1 := by
  unfold ownPurge
  dsimp only
  split
  · exact .refl r
  · exact Steady.kept (by constructor <;> simp) r r.reserved

/-! ### The Stager (R21) -/

theorem kept_setStager {s : State} (r : Ranged s) {v : Stager} (h : v.lawful) : Kept s (s.setStager v) :=
  ⟨⟨r.clock, h, r.settings, r.thermal, r.engine, r.timed, r.reserved⟩, (Kept.refl r).2⟩

/-- A load that begins has a declared length of at most 24 records (R22, R23). -/
theorem lawful_begun {declared : Nat} (imageId : BitVec 32) (h : imageLength declared = true) :
    Load.lawful ⟨declared, imageId, []⟩ := by
  have bounds := h
  simp only [imageLength, Bool.and_eq_true, decide_eq_true_eq] at bounds
  refine ⟨Nat.zero_le _, ?_, h⟩
  dsimp only
  omega

theorem ownStageBegin_kept {s : State} (r : Ranged s) (declared imageId) :
    Kept s (ownStageBegin declared imageId s).1 := by
  unfold ownStageBegin
  split
  · exact .refl r
  all_goals
    split
    · exact .refl r
    · rename_i long
      exact kept_setStager r (lawful_begun imageId (Bool.eq_true_of_not_eq_false long))

theorem ownStageChunk_kept {s : State} (r : Ranged s) (offset bytes) : Kept s (ownStageChunk offset bytes s).1 := by
  unfold ownStageChunk
  split
  · exact .refl r
  · exact .refl r
  · rename_i l receiving
    obtain ⟨-, short, image⟩ : l.lawful := by simpa [receiving, Stager.lawful] using r.stager
    split
    · exact .refl r
    split
    · exact .refl r
    · refine kept_setStager r (v := .receiving _) ⟨?_, short, image⟩
      simp only [List.length_append]
      omega

theorem ownStageAbandon_kept {s : State} (r : Ranged s) : Kept s (ownStageAbandon s).1 := by
  unfold ownStageAbandon
  split
  · exact .refl r
  · exact kept_setStager r trivial
  · exact .refl r

/-- Checks 2 to 5 of a commit end the load, and its start keeps it complete (R26 to R29). -/
theorem commit_kept {s : State} (r : Ranged s) {l : Load} (lawful : l.lawful) (complete : l.buffer.length = l.declared) (crc) :
    Kept s (s.commit l crc).1 := by
  have ends : Kept s (s.setStager .idle) := kept_setStager r trivial
  unfold State.commit
  dsimp only
  split
  · exact ends
  split
  · exact ends
  split
  · exact ends
  split
  · exact ends
  · obtain ⟨begun, -⟩ : Kept s (s.setStager (.committing l)) := kept_setStager r ⟨lawful, complete⟩
    refine Steady.kept (s := s.setStager (.committing l)) (by constructor <;> simp) begun ?_
    simpa [reservedLawful_iff] using r.reserved

theorem ownStageCommit_kept {s : State} (r : Ranged s) (crc) : Kept s (ownStageCommit crc s).1 := by
  unfold ownStageCommit
  split
  · exact .refl r
  · exact .refl r
  · rename_i l receiving
    have lawful : l.lawful := by simpa [receiving, Stager.lawful] using r.stager
    split
    · exact .refl r
    · rename_i complete
      exact commit_kept r lawful (Nat.le_antisymm lawful.1 (Nat.le_of_not_lt complete)) crc

/-! ### The Lane Clock, the configuration and the service state (R137, R144, R146) -/

/-- A change of the clock that keeps its ranges, does not unset it and does not set it back. -/
theorem kept_setClock {s : State} (r : Ranged s) {v : LaneClock} (lawful : v.lawful)
    (onward : ∀ a, s.clock.time = some a → ∃ b, v.time = some b ∧ a ≤ b) : Kept s (s.setClock v) := by
  refine ⟨⟨lawful, r.stager, r.settings, r.thermal, r.engine, fun on => ?_, r.reserved⟩, fun a b ha hb => ?_⟩
  · obtain ⟨a, ha⟩ := Option.isSome_iff_exists.mp (r.timed on)
    obtain ⟨b, hb, -⟩ := onward a ha
    simp [hb]
  · obtain ⟨c, hc, le⟩ := onward a ha
    obtain rfl : c = b := by simpa [hc] using hb
    exact le

theorem ownTime_kept {s : State} (r : Ranged s) (value) : Kept s (ownTime value s).1 := by
  have range : value.toNat ≤ maxLaneTime := Nat.le_of_lt_succ value.isLt
  obtain ⟨-, -, now_range⟩ := r.clock
  unfold ownTime
  split
  · rename_i unset
    exact kept_setClock r ⟨by simp, by simp, range⟩ (by simp [unset])
  · rename_i now set
    split
    · rename_i forward
      exact kept_setClock r ⟨by simp, by simp, range⟩ (by simpa [set] using forward)
    split
    · rename_i slight
      exact kept_setClock r ⟨slight, by simp [set], now_range⟩ fun a at_a => ⟨a, at_a, Nat.le_refl a⟩
    · exact .refl r

/-- An advance of lane time (R138) keeps the ranges of the clock. -/
theorem tick_lawful {c : LaneClock} (h : c.lawful) : c.tick.lawful := by
  obtain ⟨debt, unset, range⟩ := h
  unfold LaneClock.tick
  split
  · exact ⟨debt, unset, range⟩
  · rename_i now set
    split
    · exact ⟨debt, unset, range⟩
    split
    all_goals
      simp only [LaneClock.lawful, Option.getD_some, reduceCtorEq, false_implies, true_and]
      omega

/-- An advance of lane time (R138) sets it to no earlier value. -/
theorem tick_onward (c : LaneClock) (a : Nat) (set : c.time = some a) : ∃ b, c.tick.time = some b ∧ a ≤ b := by
  simp only [LaneClock.tick, set]
  repeat' split
  all_goals simp

/-- A number clamped to a range that is not empty lies in it. -/
theorem clamp_mem {low high : Nat} (h : low ≤ high) (x : Nat) : low ≤ clamp low high x ∧ clamp low high x ≤ high := by
  unfold clamp
  split
  · omega
  split <;> omega

/-- The configuration as taken lies in its ranges (R144). -/
theorem settingsTaken_lawful (gantry : BitVec 16) (quota margin hot cool faultCode : Byte) :
    (settingsTaken gantry quota margin hot cool faultCode).lawful := by
  obtain ⟨quota1, quota2⟩ := clamp_mem (low := 1) (high := 48) (by omega) quota.toNat
  obtain ⟨-, margin2⟩ := clamp_mem (low := 0) (high := 100) (by omega) margin.toNat
  obtain ⟨hot1, hot2⟩ := clamp_mem (low := 60) (high := 110) (by omega) hot.toNat
  obtain ⟨cool1, cool2⟩ := clamp_mem (low := 50) (high := clamp 60 110 hot.toNat - 5) (by omega) cool.toNat
  obtain ⟨-, fault2⟩ := clamp_mem (low := 0) (high := 3) (by omega) faultCode.toNat
  exact ⟨quota1, quota2, margin2, hot1, hot2, cool1, by simp only [settingsTaken]; omega, fault2⟩

theorem ownConfig_kept {s : State} (r : Ranged s) (gantry quota margin hot cool faultCode) :
    Kept s (ownConfig gantry quota margin hot cool faultCode s).1 :=
  ⟨⟨r.clock, r.stager, settingsTaken_lawful .., r.thermal, r.engine, r.timed, r.reserved⟩, (Kept.refl r).2⟩

theorem ownServiceOn_kept {s : State} (r : Ranged s) : Kept s (ownServiceOn s).1 := by
  unfold ownServiceOn
  split
  · split
    · exact .refl r
    split
    · exact .refl r
    · rename_i set
      refine ⟨⟨r.clock, r.stager, r.settings, r.thermal, r.engine, fun _ => ?_, r.reserved⟩, (Kept.refl r).2⟩
      simpa [Option.isSome_iff_ne_none] using set
  · exact .refl r

/-! ### Requests -/

/-- Every owner's event keeps the ranges. -/
theorem own_kept {i : Instr} {own : State → State × Answer} (h : ownerOf i = some own) {s : State} (r : Ranged s) :
    Kept s (own s).1 := by
  cases i <;> simp only [ownerOf, Option.some.injEq, reduceCtorEq] at h <;> subst h
  case openTag => exact ownOpen_kept r ..
  case verify => exact ownVerify_kept r ..
  case sealTag => exact ownSeal_kept r ..
  case close => exact ownClose_kept r _
  case query => exact ownQuery_kept r _
  case prefetch => exact ownPrefetch_kept r ..
  case purge => exact ownPurge_kept r ..
  case collect => exact Steady.kept (by constructor <;> simp [ownCollect]) r r.reserved
  case status => exact .refl r
  case stageBegin => exact ownStageBegin_kept r ..
  case stageChunk => exact ownStageChunk_kept r ..
  case stageCommit => exact ownStageCommit_kept r _
  case stageAbandon => exact ownStageAbandon_kept r
  case keyRead => exact ownKeyRead_kept r _
  case keyWithdraw => exact ownKeyWithdraw_kept r ..
  case rollover => exact ownRollover_kept r ..
  case rollback => exact ownRollback_kept r _
  case time => exact ownTime_kept r _
  case lanes => exact ownLanes_kept r ..
  case serviceOn => exact ownServiceOn_kept r
  case serviceOff => exact ownServiceOff_kept r
  case config => exact ownConfig_kept r ..
  case selftest => exact ownSelftest_kept r
  case restart => exact Steady.kept (by constructor <;> simp) r r.reserved

/-- The delivery of an outcome touches no field of the laws. -/
theorem Kept.answered {s t : State} (h : Kept s t) (i : Instr) (a : Answer) : Kept s (t.answered i a) :=
  ⟨⟨h.1.clock, h.1.stager, h.1.settings, h.1.thermal, h.1.engine, h.1.timed, h.1.reserved⟩, h.2⟩

theorem request_kept {i : Instr} {own : State → State × Answer} {s t : State} (r : Ranged s) (own_kept : Kept s (own s).1)
    (h : request i own s = .next t) : Kept s t := by
  unfold request at h
  split at h
  · split at h <;> cases h
    · exact (Kept.refl r).answered ..
    · exact own_kept.answered ..
  · cases h
    exact .refl r

theorem event_kept {effect : State → State} {s t : State} (r : Ranged s) (effect_kept : Kept s (effect s))
    (h : event effect s = .next t) : Kept s t := by
  unfold event at h
  split at h <;> cases h
  · exact effect_kept
  · exact .refl r

/-- Every request keeps the ranges, a STAGE_CHUNK that is not well formed included (log 28). -/
theorem exec_request_kept {i : Instr} {own : State → State × Answer} (owned : ownerOf i = some own) {s t : State}
    (r : Ranged s) (h : exec i s = .next t) : Kept s t := by
  by_cases wf : i.wellFormed = true
  · exact request_kept r (own_kept owned r) (exec_of_ownerOf owned wf s ▸ h)
  · cases i <;> simp only [Instr.wellFormed, ownerOf, reduceCtorEq, not_true_eq_false] at wf owned
    case stageChunk offset bytes =>
      have ill : (Instr.stageChunk offset bytes).wellFormed ≠ true := wf
      simp only [exec, execStageChunk, if_neg ill] at h
      exact event_kept r ((Kept.refl r).answered ..) h

/-! ### The Cipher Engine's events (R119, R123) -/

theorem reservedLawful_forOwner {s : State} (r : s.reservedLawful) (h : Handle) {act : Nat → Context → State → State}
    (keeps : ∀ i c, (act i c s).reservedLawful) : (s.forOwner h act).reservedLawful := by
  unfold State.forOwner
  split
  · exact keeps _ _
  · exact r

/-- A completed operation lowers the reserved operations, or leaves none (R102). -/
theorem reservedOk_spend {c : Context} (h : ReservedOk c) : ReservedOk c.spend := by
  intro dead
  simp [Context.spend, h dead]

theorem reservedLawful_handOver {s : State} (r : s.reservedLawful) (work : Work) (op : Operation) (masterKey : Option Key) :
    (s.handOver work op masterKey).reservedLawful := by
  have changed (i : Nat) (f : Context → Context) (ok : ∀ c, ReservedOk c → ReservedOk (f c)) :=
    ReservedIn.modifyContext r i ok
  have derivation (h : Handle) : (s.laneDerivation h op masterKey).reservedLawful := by
    unfold State.laneDerivation
    split
    · refine reservedLawful_forOwner r h fun i c => ?_
      simpa [reservedLawful_iff, State.updateContext] using changed i _ fun _ => reservedOk_spend
    · exact r
  unfold State.handOver
  split
  · split
    · refine reservedLawful_forOwner r _ fun i c => ?_
      simpa [reservedLawful_iff, State.updateContext] using changed i _ fun _ _ => reservedOk_of_live rfl
    · exact derivation _
  · refine reservedLawful_forOwner r _ fun i c => ?_
    split
    · simpa [reservedLawful_iff, State.updateContext] using changed i _ fun _ _ => reservedOk_of_live rfl
    · exact reservedLawful_failContext r _ _ _
  · split
    · exact reservedLawful_forOwner r _ fun i c => changed i _ fun _ => reservedOk_spend
    · refine reservedLawful_forOwner r _ fun i c => ?_
      simpa [reservedLawful_iff, State.updateContext] using changed i _ fun _ _ => reservedOk_of_zero rfl
    · exact derivation _
  · unfold State.prefetchDerivation
    split
    · simpa [reservedLawful_iff] using r
    · exact r
  · exact r

/-- The end of a keyset job ends the load (R31 to R34). -/
theorem endKeyset_stager (s : State) (work : Work) :
    (s.endKeyset work).stager = s.stager ∨ (s.endKeyset work).stager = .idle := by
  unfold State.endKeyset State.completeCommit
  dsimp only
  repeat' split
  all_goals simp

theorem lastOperation_kept {s : State} (r : Ranged s) (name : UnitName) (j : Job) (op : Operation) (masterKey : Option Key) :
    Kept s (s.lastOperation name j op masterKey) := by
  refine Steady.kept ?_ r ?_
  · have load := endKeyset_stager ((s.setJobs (s.jobs.filter fun x => !decide (x.sequence = j.sequence))).handOver j.work op
      masterKey) (s.workAfter j.work op)
    constructor <;> simp_all [State.lastOperation]
  · simpa [reservedLawful_iff, State.lastOperation, State.endJob] using
      reservedLawful_handOver (s := s.endJob j.sequence) r.reserved j.work op masterKey

theorem unit_handOver (s : State) (name : UnitName) (work : Work) (op : Operation) (masterKey : Option Key) :
    (s.handOver work op masterKey).unit name = s.unit name := by
  cases name <;> simp [State.unit]

theorem middleOperation_kept {s : State} (r : Ranged s) (name : UnitName) (j : Job) (op : Operation) (rest : List Operation)
    (masterKey : Option Key) : Kept s (s.middleOperation name j op rest masterKey) := by
  have handed := reservedLawful_handOver r.reserved j.work op masterKey
  unfold State.middleOperation
  dsimp only
  split
  · exact Steady.kept (by constructor <;> simp [unit_setJobs, unit_handOver]) r (by simpa [reservedLawful_iff] using handed)
  · exact Steady.kept (by constructor <;> simp) r (by simpa [reservedLawful_iff] using handed)

theorem operationComplete_kept {s : State} (r : Ranged s) (name : UnitName) : Kept s (State.operationComplete name s) := by
  have freed : Kept s (s.freeUnit name).arbitrate :=
    Steady.kept (by constructor <;> simp) r (by simpa [reservedLawful_iff] using r.reserved)
  unfold State.operationComplete
  split
  · split
    · exact freed
    · split
      · exact freed
      · exact lastOperation_kept r ..
      · exact middleOperation_kept r ..
  · exact .refl r
  · exact .refl r

/-- A self-test never leads to SERVICE_ON (R124, R125). -/
theorem serviceAfterTest_on {service : ServiceState} {origin : TestOrigin} {pass0 pass1 : Bool}
    (h : serviceAfterTest service origin pass0 pass1 = .serviceOn) : service = .serviceOn := by
  unfold serviceAfterTest at h
  split at h
  · cases h
  · split at h
    · cases h
    · exact h

theorem endTest_kept {s : State} (r : Ranged s) (fault0 fault1 : UnitFault) : Kept s (State.endTest fault0 fault1 s) := by
  unfold State.endTest
  split
  · exact .refl r
  · refine Steady.kept ?_ r (by simpa [reservedLawful_iff] using r.reserved)
    constructor <;> simp [CipherUnit.tested]
    exact serviceAfterTest_on

/-! ### The Thermal Monitor (R152 to R155) -/

theorem countAfter_le {count : Nat} (h : count ≤ 255) (rises : Bool) : countAfter rises count ≤ 255 := by
  unfold countAfter
  repeat' split
  all_goals omega

theorem readingTaken_mem (celsius : Int) : -40 ≤ readingTaken celsius ∧ readingTaken celsius ≤ 125 := by
  unfold readingTaken
  split
  · omega
  split <;> omega

/-- THROTTLED is reached from NORMAL only (R154). -/
theorem stateAfter_throttled {t : Thermal} {x : Settings} {reading : Int} (h : t.stateAfter x reading = .throttled) :
    t.state = .normal ∨ t.state = .throttled := by
  unfold Thermal.stateAfter at h
  repeat' split at h
  all_goals simp_all

/-- The engine stands as the thermal state that a reading decides (R155). -/
theorem actOnEngine_agrees {s : State} (inService : s.u0.placement = .inService) {state : ThermalState}
    (decided : s.thermal.state = state) (throttles : state = .throttled → s.suspended = false) :
    (s.actOnEngine state).engineAgrees := by
  cases state <;> simp_all [State.actOnEngine, State.engineAgrees]

theorem takeReading_kept {s : State} (r : Ranged s) (celsius : Int) : Kept s (State.takeReading celsius s) := by
  obtain ⟨inService, parked, suspended⟩ := r.engine
  obtain ⟨hot, limit, -⟩ := r.thermal
  have thermal : Thermal.lawful ⟨some (readingTaken celsius), s.thermal.hotAfter s.settings (readingTaken celsius),
      s.thermal.limitAfter (readingTaken celsius), s.thermal.stateAfter s.settings (readingTaken celsius)⟩ :=
    ⟨countAfter_le hot _, countAfter_le limit _, readingTaken_mem celsius⟩
  unfold State.takeReading
  dsimp only
  split
  · rename_i same
    exact ⟨⟨r.clock, r.stager, r.settings, thermal, by simpa [State.engineAgrees, same] using r.engine, r.timed, r.reserved⟩,
      (Kept.refl r).2⟩
  · rename_i changes
    have engine := actOnEngine_agrees (s := s.setThermal ⟨some (readingTaken celsius),
      s.thermal.hotAfter s.settings (readingTaken celsius), s.thermal.limitAfter (readingTaken celsius),
      s.thermal.stateAfter s.settings (readingTaken celsius)⟩) inService rfl fun throttled => by
        rcases stateAfter_throttled throttled with e | e <;> simpa [e] using suspended
    refine ⟨⟨?_, ?_, ?_, ?_, ?_, ?_, ?_⟩, ?_⟩
    · simpa using r.clock
    · simpa using r.stager
    · simpa using r.settings
    · simpa using thermal
    · simpa [State.engineAgrees] using engine
    · simpa [State.serviceTimed] using r.timed
    · simpa [reservedLawful_iff] using r.reserved
    · simpa using (Kept.refl r).2

/-! ### Timed events, the Lane Link, resets and zeroize -/

theorem kept_setLink {s : State} (r : Ranged s) (v : Link) : Kept s (s.setLink v) :=
  Steady.kept (by constructor <;> simp) r r.reserved

theorem deadlineEvent_kept {s : State} (r : Ranged s) (index : Nat) : Kept s (State.deadlineEvent index s) := by
  unfold State.deadlineEvent
  split
  · split
    · exact Steady.kept (by constructor <;> simp) r (reservedLawful_failContext r.reserved _ _ _)
    · exact .refl r
  · exact .refl r

theorem lingerEnd_kept {s : State} (r : Ranged s) (index : Nat) : Kept s (State.lingerEnd index s) := by
  unfold State.lingerEnd
  split
  · split
    · exact Steady.kept (by constructor <;> simp) r (reservedLawful_freeContext r.reserved _ _)
    · exact .refl r
  · exact .refl r

theorem withdraw_kept {s : State} (r : Ranged s) (withdrawn : List Nat) : Kept s (s.withdraw withdrawn) :=
  Steady.kept (by constructor <;> simp) r (reservedLawful_withdraw r.reserved withdrawn)

theorem applyPhase_kept {s : State} (r : Ranged s) (record : Rollover) : Kept s (s.applyPhase record) := by
  refine Steady.kept (by constructor <;> simp) r ?_
  have retired := reservedLawful_withdraw (s := s.setRollovers (removeRollover s.rollovers record.issuer)) r.reserved
    (record.retiring s.slots)
  unfold State.applyPhase
  dsimp only
  split
  · simpa [reservedLawful_iff] using r.reserved
  · simpa [reservedLawful_iff] using retired

theorem phaseDue_kept {s : State} (r : Ranged s) (issuer : Issuer) : Kept s (State.phaseDue issuer s) := by
  unfold State.phaseDue
  split
  · split
    · exact applyPhase_kept r _
    · exact .refl r
  · exact .refl r

/-- The reset values of the volatile state lie in the ranges (R148). -/
theorem clearVolatile_kept (s : State) : Kept s s.clearVolatile := by
  refine ⟨⟨?_, trivial, ?_, ?_, ?_, ?_, reservedIn_fresh 48⟩, ?_⟩
  · simp [State.clearVolatile, LaneClock.lawful]
  · simp [State.clearVolatile, Settings.default, Settings.lawful]
  · simp [State.clearVolatile, Thermal.lawful]
  · simp [State.clearVolatile, State.engineAgrees, CipherUnit.fresh]
  · simp [State.clearVolatile, State.serviceTimed]
  · simp [State.clearVolatile]

/-- What follows a clearing of the volatile state touches no field of the laws. -/
theorem cleared_kept {s t : State} (h : Steady s.clearVolatile t) (places : t.places = s.clearVolatile.places) : Kept s t := by
  obtain ⟨r, -⟩ := clearVolatile_kept s
  refine ⟨(h.kept r ((reservedLawful_iff t).mpr (places ▸ r.reserved))).1, fun a b _ hb => ?_⟩
  simp [h.clock, State.clearVolatile] at hb

theorem beginReset_kept (s : State) : Kept s s.beginReset :=
  cleared_kept (by constructor <;> simp [State.beginReset]) rfl

theorem endReset_kept (s : State) (rate1 rate0 : Bool) : Kept s (s.endReset rate1 rate0) := by
  unfold State.endReset
  dsimp only
  split
  · exact cleared_kept (by constructor <;> simp) rfl
  · exact cleared_kept (by constructor <;> simp [State.beginTest]) rfl

theorem zeroized_kept {s : State} (r : Ranged s) : Kept s s.zeroized :=
  Steady.kept (by constructor <;> simp [State.zeroized]) r (reservedIn_fresh 48)

theorem replySent_kept {s : State} (r : Ranged s) : Kept s s.replySent := by
  unfold State.replySent
  split
  · exact beginReset_kept s
  split
  · exact kept_setLink r _
  · exact .refl r
  · exact .refl r

/-- Every command that is no request keeps the ranges. -/
theorem exec_event_kept {i : Instr} (unowned : ownerOf i = none) {s t : State} (r : Ranged s) (h : exec i s = .next t) :
    Kept s t := by
  cases i <;> simp only [ownerOf, reduceCtorEq] at unowned
  case frameReceived =>
    refine event_kept r ?_ h
    split
    · exact kept_setLink r _
    · exact .refl r
  case frameGapTimeout => exact event_kept (effect := fun s => s.setLink s.link.abandon) r (kept_setLink r _) h
  case byteReceived byte =>
    exact event_kept (effect := fun s => s.setLink (s.link.receive s.report byte)) r (kept_setLink r _) h
  case replyComplete => exact event_kept r (replySent_kept r) h
  case laneTimeTick =>
    exact event_kept (effect := fun s => s.setClock s.clock.tick) r
      (kept_setClock r (tick_lawful r.clock) (tick_onward s.clock)) h
  case deadlineEvent index => exact event_kept r (deadlineEvent_kept r index) h
  case lingerEnd index => exact event_kept r (lingerEnd_kept r index) h
  case windowEnd =>
    refine event_kept (effect := fun s => if s.endedSlots = [] then s else s.withdraw s.endedSlots) r ?_ h
    split
    · exact .refl r
    · exact withdraw_kept r _
  case phaseDue issuer => exact event_kept r (phaseDue_kept r issuer) h
  case prefetchExpiry sequence =>
    exact event_kept (effect := fun s => s.cancelJobs (s.expires sequence)) r
      (Steady.kept (by constructor <;> simp) r r.reserved) h
  case thermalReading celsius => exact event_kept r (takeReading_kept r celsius) h
  case operationComplete unit => exact event_kept r (operationComplete_kept r unit) h
  case selftestEnd fault0 fault1 => exact event_kept r (endTest_kept r fault0 fault1) h
  case powerOn =>
    cases h
    split
    · exact beginReset_kept s
    · exact .refl r
  case supplyLoss =>
    cases h
    exact cleared_kept (by constructor <;> simp) rfl
  case resetNLow =>
    cases h
    split
    · exact .refl r
    · exact beginReset_kept s
  case resetEnd rate1 rate0 =>
    cases h
    split
    · exact endReset_kept s rate1 rate0
    · exact .refl r
  case zeroize =>
    cases h
    split
    · exact .refl r
    · exact zeroized_kept r
  case provisioning =>
    cases h
    exact Steady.kept (by constructor <;> simp) r r.reserved

/-- Every command keeps the ranges. -/
theorem exec_kept {i : Instr} {s t : State} (r : Ranged s) (h : exec i s = .next t) : Kept s t := by
  cases owned : ownerOf i with
  | none => exact exec_event_kept owned r h
  | some own => exact exec_request_kept owned r h

/-- Settles O57: every command either leaves the fields of the laws alone (`Steady`) or writes them in range. -/
theorem rangesAreKept : Obligations.RangesAreKept := by
  rintro s t ⟨clock, stager, settings, thermal, engine, timed, reserved⟩ h
  have r : Ranged s := ⟨clock, stager, settings, thermal, engine, timed, reserved⟩
  have kept : Kept s t := by
    rcases step_cases s with ⟨-, idle⟩ | ⟨i, rest, -, runs⟩
    · cases idle.symm.trans h
      exact .refl r
    · have dequeued : Ranged (s.setPending rest) := ⟨clock, stager, settings, thermal, engine, timed, reserved⟩
      exact (exec_kept dequeued (runs.symm.trans h) :)
  obtain ⟨ranged, onward⟩ := kept
  exact ⟨⟨ranged.clock, ranged.stager, ranged.settings, ranged.thermal, ranged.engine, ranged.timed, ranged.reserved⟩, onward⟩

end Sys2Proof.Machine.Ranges

/-! Key set loading (R21 to R35, R135): what each request to the Stager answers and leaves, when an image passes its checks, and
how a keyset job runs to the install. -/

namespace Sys2Proof.Machine.Loading

/-! ### A request that its owner takes -/

/-- A well-formed request that its owner takes is answered by its owner's event (R162, R163). -/
theorem exec_taken {i : Instr} {own : State → State × Answer} (owned : ownerOf i = some own) (wf : i.wellFormed = true)
    {s : State} (taken : s.takes i) : exec i s = .next ((own s).1.answered i (own s).2) := by
  obtain ⟨running, service⟩ := taken
  have passes : s.linkRefusal i = none := by
    rcases service with off | on | ⟨handed, notZeroized⟩
    · exact State.linkRefusal_of_service i (.inl off)
    · exact State.linkRefusal_of_service i (.inr on)
    · exact State.linkRefusal_of_handed handed notZeroized
  rw [exec_of_ownerOf owned wf, request_taken running passes]

/-- The outcome of a request whose owner's event is known. -/
theorem exec_outcome {i : Instr} {own : State → State × Answer} (owned : ownerOf i = some own) (wf : i.wellFormed = true)
    {s t : State} {a : Answer} (taken : s.takes i) (outcome : own s = (t, a)) : exec i s = .next (t.answered i a) := by
  rw [exec_taken owned wf taken, outcome]

/-! ### The length of an image (R22) -/

theorem recordCount_of_length (n : Nat) : recordCount (8 + 32 * n) = n := by
  unfold recordCount
  omega

theorem imageLength_iff (length : Nat) : imageLength length = true ↔ ∃ n, 1 ≤ n ∧ n ≤ 24 ∧ length = 8 + 32 * n := by
  simp only [imageLength, Bool.and_eq_true, decide_eq_true_eq]
  constructor
  · rintro ⟨⟨whole, least⟩, most⟩
    exact ⟨recordCount length, least, most, whole⟩
  · rintro ⟨n, least, most, rfl⟩
    rw [recordCount_of_length]
    exact ⟨⟨rfl, least⟩, most⟩

/-! ### STAGE_BEGIN, STAGE_CHUNK and STAGE_ABANDON (R23 to R25) -/

theorem ownStageBegin_committing {s : State} {l : Load} (h : s.stager = .committing l) (declared imageId) :
    ownStageBegin declared imageId s = (s, .refuse .busy) := by
  simp [ownStageBegin, h]

theorem ownStageBegin_badLength {s : State} (h : ∀ l, s.stager ≠ .committing l) {declared : BitVec 16}
    (bad : imageLength declared.toNat = false) (imageId) :
    ownStageBegin declared imageId s = (s, .refuse (.badField 0 0)) := by
  cases stager : s.stager with
  | idle => simp [ownStageBegin, stager, bad]
  | receiving l => simp [ownStageBegin, stager, bad]
  | committing l => exact absurd stager (h l)

theorem ownStageBegin_begins {s : State} (h : ∀ l, s.stager ≠ .committing l) {declared : BitVec 16}
    (good : imageLength declared.toNat = true) (imageId) :
    ownStageBegin declared imageId s = (s.setStager (.receiving ⟨declared.toNat, imageId, []⟩),
      .stageBegun (recordCount declared.toNat) (!decide (s.stager = .idle))) := by
  cases stager : s.stager with
  | idle => simp [ownStageBegin, stager, good]
  | receiving l => simp [ownStageBegin, stager, good]
  | committing l => exact absurd stager (h l)

theorem ownStageChunk_receiving {s : State} {l : Load} (h : s.stager = .receiving l) (offset : BitVec 16)
    (bytes : List Byte) :
    ownStageChunk offset bytes s =
      if offset.toNat ≠ l.buffer.length then (s, .refuse (.outOfSequence l.buffer.length))
      else if l.declared < offset.toNat + bytes.length then (s, .refuse (.overlength l.declared l.buffer.length))
      else (s.setStager (.receiving { l with buffer := l.buffer ++ bytes }),
        .chunkTaken (l.buffer.length + bytes.length)) := by
  simp only [ownStageChunk, h]

/-- A STAGE_CHUNK of no bytes or of more than 240 is answered BAD_LENGTH before the service state is read (R163, log 28). -/
theorem exec_stageChunk_badLength {s : State} (running : s.power = .running) {bytes : List Byte}
    (bad : bytes.length = 0 ∨ 240 < bytes.length) (offset : BitVec 16) :
    Refuses (.stageChunk offset bytes) s (.badLength (BitVec.ofNat 8 (bytes.length + 2))) := by
  have ill : (Instr.stageChunk offset bytes).wellFormed ≠ true := by
    simp only [Instr.wellFormed, ne_eq, Bool.and_eq_true, decide_eq_true_eq]
    omega
  simp only [Refuses, Answers, exec, execStageChunk, if_neg ill, event_running running]

/-- Settles O28, by the equations of the three owners' events. -/
theorem stagingRequests : Obligations.StagingRequests := by
  intro s declared offset imageId bytes
  refine ⟨fun taken => ?_, fun running bad => exec_stageChunk_badLength running bad offset,
    fun taken some_bytes few_bytes => ?_, fun taken => ?_⟩
  · have outcome {t a} := exec_outcome (t := t) (a := a) (i := .stageBegin declared imageId) rfl rfl taken
    refine ⟨fun l committing => outcome (ownStageBegin_committing committing ..), fun free => ⟨fun bad => ?_, ?_⟩⟩
    · have short : imageLength declared.toNat = false :=
        Bool.eq_false_iff.mpr fun good => bad ((imageLength_iff _).mp good)
      exact outcome (ownStageBegin_badLength free short imageId)
    · intro n least most length
      have good := (imageLength_iff declared.toNat).mpr ⟨n, least, most, length⟩
      have count : recordCount declared.toNat = n := length ▸ recordCount_of_length n
      exact outcome (count ▸ ownStageBegin_begins free good imageId)
  · have wf : (Instr.stageChunk offset bytes).wellFormed = true := by simp [Instr.wellFormed, some_bytes, few_bytes]
    have outcome {t a} := exec_outcome (t := t) (a := a) (i := .stageChunk offset bytes) rfl wf taken
    refine ⟨fun idle => outcome (by simp [ownStageChunk, idle]),
      fun l committing => outcome (by simp [ownStageChunk, committing]), fun l receiving => ?_⟩
    have event := ownStageChunk_receiving receiving offset bytes
    refine ⟨fun apart => outcome (by rw [event, if_pos apart]), fun next => ⟨fun long => ?_, fun fits => ?_⟩⟩
    · exact outcome (by rw [event, if_neg (not_not.mpr next), if_pos long])
    · exact outcome (by rw [event, if_neg (not_not.mpr next), if_neg (Nat.not_lt.mpr fits)])
  · have outcome {t a} := exec_outcome (t := t) (a := a) (i := .stageAbandon) rfl rfl taken
    exact ⟨fun idle => outcome (by simp [ownStageAbandon, idle]),
      fun l receiving => outcome (by simp [ownStageAbandon, receiving]),
      fun l committing => outcome (by simp [ownStageAbandon, committing])⟩

/-! ### STAGE_COMMIT (R26 to R29) -/

section
variable {s : State} {l : Load} {crc : BitVec 32}

theorem commit_imageCrc (differs : crc32 (l.buffer.take l.declared) ≠ crc) :
    s.commit l crc = (s.setStager .idle, .refuse (.imageCrc (crc32 (l.buffer.take l.declared)))) := by
  simp [State.commit, differs]

theorem commit_badImage (matches_crc : crc32 (l.buffer.take l.declared) = crc) {record : Option Nat}
    (fault : imageFault l = some record) : s.commit l crc = (s.setStager .idle, .refuse (.badImage record)) := by
  simp [State.commit, matches_crc, fault]

theorem commit_conflict (matches_crc : crc32 (l.buffer.take l.declared) = crc) (sound : imageFault l = none) {k : Nat}
    {slot : Option Nat} (conflict : firstConflict s.slots [] l.records = some (k, slot)) :
    s.commit l crc = (s.setStager .idle, .refuse (.conflict k slot)) := by
  simp [State.commit, matches_crc, sound, conflict]

theorem commit_directoryFull (matches_crc : crc32 (l.buffer.take l.declared) = crc) (sound : imageFault l = none)
    (free : firstConflict s.slots [] l.records = none) (full : emptySlots s.slots < recordCount l.declared) :
    s.commit l crc =
      (s.setStager .idle, .refuse (.directoryFull (recordCount l.declared) (emptySlots s.slots))) := by
  simp [State.commit, matches_crc, sound, free, full]

theorem commit_starts (matches_crc : crc32 (l.buffer.take l.declared) = crc) (sound : imageFault l = none)
    (free : firstConflict s.slots [] l.records = none) (room : recordCount l.declared ≤ emptySlots s.slots) :
    s.commit l crc =
      (((s.setStager (.committing l)).place (.keyset l [] []) (keysetOperations (recordCount l.declared))
        s.keysetDeadline).arbitrate, .commitStarted (recordCount l.declared) (2 * recordCount l.declared)) := by
  simp [State.commit, matches_crc, sound, free, Nat.not_lt.mpr room]

end

/-- Settles O29: the checks of a commit one after another, each with the equation for the first that fails. -/
theorem stageCommitOutcomes : Obligations.StageCommitOutcomes := by
  intro s crc taken
  have outcome {t a} := exec_outcome (t := t) (a := a) (i := .stageCommit crc) rfl rfl taken
  refine ⟨fun idle => outcome (by simp [ownStageCommit, idle]),
    fun l committing => outcome (by simp [ownStageCommit, committing]), fun l receiving => ⟨fun short => ?_, ?_⟩⟩
  · exact outcome (by simp [ownStageCommit, receiving, short])
  · intro complete computed
    have event : ownStageCommit crc s = s.commit l crc := by
      simp [ownStageCommit, receiving, Nat.not_lt.mpr complete]
    refine ⟨fun differs => outcome (event.trans (commit_imageCrc differs)), fun matches_crc => ⟨?_, fun sound => ⟨?_, ?_⟩⟩⟩
    · intro record fault
      exact outcome (event.trans (commit_badImage matches_crc fault))
    · intro k slot conflict
      exact outcome (event.trans (commit_conflict matches_crc sound conflict))
    · intro free
      exact ⟨fun full => outcome (event.trans (commit_directoryFull matches_crc sound free full)),
        fun room => outcome (event.trans (commit_starts matches_crc sound free room))⟩

/-! ### The structure of an image (R27) -/

theorem headerFault_eq_false_iff (l : Load) :
    headerFault l = false ↔ fieldAt l.buffer 4 1 = recordCount l.declared ∧ fieldAt l.buffer 5 1 = 1 ∧
      fieldAt l.buffer 0 4 = l.imageId.toNat := by
  simp [headerFault, and_assoc]

theorem issuerValid_iff (issuer : Issuer) : issuerValid issuer = true ↔ issuer ≠ 0 ∧ issuer ≠ 0xFFFF := by
  simp [issuerValid]

theorem fault_eq_false_iff (r : ImageRecord) :
    r.fault = false ↔ r.issuer ≠ 0 ∧ r.issuer ≠ 0xFFFF ∧ (r.role = 1 ∨ r.role = 2) ∧ (r.initial = 0 ∨ r.initial = 1) ∧
      r.notBefore.toNat < r.notAfter.toNat := by
  rw [← and_assoc, ← issuerValid_iff]
  simp [ImageRecord.fault, and_assoc, or_iff_not_imp_left]

theorem imageFault_eq_none_iff (l : Load) :
    imageFault l = none ↔ headerFault l = false ∧ ∀ r ∈ l.records, r.fault = false := by
  cases header : headerFault l <;> simp [imageFault, header]

/-- The record that an image is refused for is the first at fault (R27). -/
theorem imageFault_record {l : Load} {k : Nat} (h : imageFault l = some (some k)) :
    ∃ r, l.records[k]? = some r ∧ r.fault = true ∧ ∀ m x, m < k → l.records[m]? = some x → x.fault = false := by
  cases header : headerFault l with
  | true => simp [imageFault, header] at h
  | false =>
    have first : l.records.findIdx? ImageRecord.fault = some k := by simpa [imageFault, header] using h
    obtain ⟨lt, fault, before⟩ := List.findIdx?_eq_some_iff_getElem.mp first
    refine ⟨_, List.getElem?_eq_getElem lt, fault, fun m x earlier at_m => ?_⟩
    obtain ⟨_, rfl⟩ := List.getElem?_eq_some_iff.mp at_m
    simpa using before m earlier

/-! ### Conflicts (R28) -/

/-- Two records of one image that cannot both be installed: they name one master key, or both would be the issuer's ACTIVE SEAL
slot (R22, R28). -/
def Clash (a b : ImageRecord) : Prop :=
  (a.issuer = b.issuer ∧ a.generation = b.generation ∧ a.roleOf = b.roleOf) ∨
    (a.issuer = b.issuer ∧ a.roleOf = .seal ∧ b.roleOf = .seal ∧ a.stateOf = .active ∧ b.stateOf = .active)

/-- A record finds no slot in its way: none of its triple, and for an ACTIVE SEAL record no ACTIVE SEAL slot of its issuer
(R28). -/
def FitsDirectory (slots : List Slot) (r : ImageRecord) : Prop :=
  ∀ n k, heldAt slots n = some k → k.issuer = r.issuer →
    ¬ (k.generation = r.generation ∧ k.role = r.roleOf) ∧
    ¬ (r.roleOf = .seal ∧ r.stateOf = .active ∧ k.role = .seal ∧ k.state = .active)

theorem sameTriple_iff (a b : ImageRecord) :
    a.sameTriple b = true ↔ a.issuer = b.issuer ∧ a.generation = b.generation ∧ a.roleOf = b.roleOf := by
  simp [ImageRecord.sameTriple, and_assoc]

theorem isActiveSeal_iff (r : ImageRecord) : r.isActiveSeal = true ↔ r.roleOf = .seal ∧ r.stateOf = .active := by
  simp [ImageRecord.isActiveSeal]

theorem findSlot_eq_none_iff (slots : List Slot) (issuer : Issuer) (generation : Generation) (role : Role) :
    findSlot slots issuer generation role = none ↔
      ∀ n k, heldAt slots n = some k → ¬ (k.issuer = issuer ∧ k.generation = generation ∧ k.role = role) := by
  refine ⟨findSlot_eq_none, fun h => ?_⟩
  cases found : findSlot slots issuer generation role with
  | none => rfl
  | some n =>
    obtain ⟨k, held, triple⟩ := findSlot_eq_some found
    exact absurd triple (h n k held)

theorem activeSeal_eq_none_iff (slots : List Slot) (issuer : Issuer) :
    activeSeal slots issuer = none ↔
      ∀ n k, heldAt slots n = some k → ¬ (k.issuer = issuer ∧ k.role = .seal ∧ k.state = .active) := by
  refine ⟨activeSeal_eq_none, fun h => ?_⟩
  cases found : activeSeal slots issuer with
  | none => rfl
  | some n =>
    obtain ⟨k, held, active⟩ := activeSeal_eq_some found
    exact absurd active (h n k held)

theorem fitsDirectory_iff (slots : List Slot) (r : ImageRecord) :
    FitsDirectory slots r ↔ findSlot slots r.issuer r.generation r.roleOf = none ∧
      (r.isActiveSeal = true → activeSeal slots r.issuer = none) := by
  rw [findSlot_eq_none_iff, activeSeal_eq_none_iff, isActiveSeal_iff]
  constructor
  · intro fits
    refine ⟨fun n k held triple => ?_, fun active n k held taken => ?_⟩
    · exact (fits n k held triple.1).1 triple.2
    · exact (fits n k held taken.1).2 ⟨active.1, active.2, taken.2⟩
  · rintro ⟨triple, active⟩ n k held issuer
    exact ⟨fun h => triple n k held ⟨issuer, h⟩, fun ⟨role, state, h⟩ => active ⟨role, state⟩ n k held ⟨issuer, h⟩⟩

/-- A record has no conflict when it clashes with no earlier record and no slot is in its way (R28). -/
theorem conflict_eq_none_iff (slots : List Slot) (earlier : List ImageRecord) (r : ImageRecord) :
    r.conflict slots earlier = none ↔ (∀ e ∈ earlier, ¬ Clash e r) ∧ FitsDirectory slots r := by
  have triples : earlier.any (ImageRecord.sameTriple r) = true ↔
      ∃ e ∈ earlier, e.issuer = r.issuer ∧ e.generation = r.generation ∧ e.roleOf = r.roleOf := by
    simp only [List.any_eq_true, sameTriple_iff, @eq_comm _ r.issuer, @eq_comm _ r.generation, @eq_comm _ r.roleOf]
  have seals : (earlier.any fun e => e.isActiveSeal && decide (e.issuer = r.issuer)) = true ↔
      ∃ e ∈ earlier, (e.roleOf = .seal ∧ e.stateOf = .active) ∧ e.issuer = r.issuer := by
    simp only [List.any_eq_true, Bool.and_eq_true, isActiveSeal_iff, decide_eq_true_eq]
  rw [fitsDirectory_iff]
  unfold ImageRecord.conflict
  split
  case isTrue same =>
    obtain ⟨e, mem, triple⟩ := triples.mp same
    exact iff_of_false (by simp) fun h => h.1 e mem (.inl triple)
  case isFalse apart =>
    rw [triples] at apart
    split
    case h_1 i found => simp [found]
    case h_2 unfound =>
      split
      case isFalse inactive =>
        refine iff_of_true rfl ⟨fun e mem clash => ?_, unfound, fun active => absurd active inactive⟩
        rcases clash with triple | ⟨_, _, role, _, state⟩
        · exact apart ⟨e, mem, triple⟩
        · exact inactive ((isActiveSeal_iff r).mpr ⟨role, state⟩)
      case isTrue active =>
        obtain ⟨role, state⟩ := (isActiveSeal_iff r).mp active
        split
        case isTrue other =>
          obtain ⟨e, mem, ⟨role', state'⟩, issuer⟩ := seals.mp other
          exact iff_of_false (by simp) fun h => h.1 e mem (.inr ⟨issuer, role', role, state', state⟩)
        case isFalse alone =>
          rw [seals] at alone
          have noClash : ∀ e ∈ earlier, ¬ Clash e r := by
            rintro e mem (triple | ⟨issuer, role', -, state', -⟩)
            · exact apart ⟨e, mem, triple⟩
            · exact alone ⟨e, mem, ⟨role', state'⟩, issuer⟩
          cases activeSeal slots r.issuer with
          | none => simpa [unfound, active] using noClash
          | some i => simp [active]

theorem firstConflict_eq_none_iff (slots : List Slot) (earlier records : List ImageRecord) :
    firstConflict slots earlier records = none ↔
      (∀ e ∈ earlier, ∀ r ∈ records, ¬ Clash e r) ∧ records.Pairwise (fun a b => ¬ Clash a b) ∧
        ∀ r ∈ records, FitsDirectory slots r := by
  induction records generalizing earlier with
  | nil => simp [firstConflict]
  | cons r rest ih =>
    have first := conflict_eq_none_iff slots earlier r
    unfold firstConflict
    cases conflict : r.conflict slots earlier with
    | some slot =>
      have : ¬ ((∀ e ∈ earlier, ¬ Clash e r) ∧ FitsDirectory slots r) := fun h => by simp [first.mpr h] at conflict
      simp only [reduceCtorEq, false_iff]
      rintro ⟨apart, -, fits⟩
      exact this ⟨fun e mem => apart e mem r List.mem_cons_self, fits r List.mem_cons_self⟩
    | none =>
      obtain ⟨apart, fits⟩ := first.mp conflict
      simp only [ih, List.forall_mem_append, List.forall_mem_singleton, List.forall_mem_cons, List.pairwise_cons,
        forall₂_and]
      exact ⟨fun ⟨⟨old, new⟩, pairs, others⟩ => ⟨⟨apart, old⟩, ⟨new, pairs⟩, fits, others⟩,
        fun ⟨⟨_, old⟩, ⟨new, pairs⟩, _, others⟩ => ⟨⟨old, new⟩, pairs, others⟩⟩

/-- Settles O30: the checks of a record, read as propositions, and an induction over the image's records. -/
theorem imageChecks : Obligations.ImageChecks := by
  refine ⟨fun l => ?_, fun l k => imageFault_record, fun slots records => ?_⟩
  · simp only [imageFault_eq_none_iff, headerFault_eq_false_iff, fault_eq_false_iff, and_assoc]
    rfl
  · simpa [Clash, not_or, FitsDirectory] using firstConflict_eq_none_iff slots [] records

/-! ### The operations of a keyset job (R30, R119, R135) -/

/-- The job that a unit runs is found by its enqueue sequence. -/
theorem findJob_of_runs {s : State} {name : UnitName} {masterKey : Option Key} {j : Job} (h : s.runs name masterKey j) :
    findJob s.jobs j.sequence = some j := by
  obtain ⟨-, -, mem, distinct⟩ := h
  cases found : findJob s.jobs j.sequence with
  | none => simpa using List.find?_eq_none.mp found j mem
  | some k =>
    have same : k.sequence = j.sequence := by simpa using List.find?_some found
    rw [List.inj_on_of_nodup_map distinct (List.mem_of_find?_eq_some found) mem same]

/-- The change of a job by its enqueue sequence changes that job only. -/
theorem updateJob_of_mem {jobs : List Job} {j : Job} (mem : j ∈ jobs) (distinct : (jobs.map (·.sequence)).Nodup)
    (f : Job → Job) : updateJob jobs j.sequence f = updateJob jobs j.sequence fun _ => f j := by
  refine List.map_congr_left fun k hk => ?_
  split
  · rename_i same
    rw [List.inj_on_of_nodup_map distinct hk mem same]
  · rfl

section
variable {s : State} {name : UnitName} {masterKey : Option Key} {j : Job} {l : Load} {keys : List Key} {results : List Bool}

/-- An operation of a keyset job that is not its last: a serving unit goes on with the next one (R119). -/
theorem exec_keyset_middle (runs : s.runs name masterKey j) (work : j.work = .keyset l keys results)
    {op next : Operation} {rest : List Operation} (operations : j.operations = op :: next :: rest)
    (serves : (s.unit name).serves s.suspended = true) :
    exec (.operationComplete name) s = .next (s.goesOn name (masterKeyFor s.slots (some next))
      { j with work := s.workAfter (.keyset l keys results) op, operations := next :: rest }) := by
  have found := findJob_of_runs runs
  obtain ⟨running, activity, mem, distinct⟩ := runs
  have handed : s.handOver j.work op masterKey = s := by simp [State.handOver, work]
  have advanced : s.advanceJob op j =
      { j with work := s.workAfter (.keyset l keys results) op, operations := next :: rest } := by
    simp [State.advanceJob, work, operations]
  calc exec (.operationComplete name) s
      = .next (s.middleOperation name j op (next :: rest) masterKey) := by
        simp [exec, execOperationComplete, event_running running, State.operationComplete, activity, found, operations]
    _ = _ := by
        simp only [State.middleOperation, handed, serves, if_true, List.head?_cons, State.goesOn,
          updateJob_of_mem mem distinct (s.advanceJob op), advanced]

/-- The last operation of a keyset job completes the commit (R31, R119). -/
theorem exec_keyset_last (runs : s.runs name masterKey j) (work : j.work = .keyset l keys results) {k : Nat}
    (operations : j.operations = [.check k]) :
    exec (.operationComplete name) s =
      .next ((((s.endJob j.sequence).completeCommit l keys (results ++ [checkMatches l keys k])).freeUnit name).arbitrate) := by
  have found := findJob_of_runs runs
  obtain ⟨running, activity, -, -⟩ := runs
  simp [exec, execOperationComplete, event_running running, State.operationComplete, activity, found, operations,
    State.lastOperation, State.handOver, State.workAfter, State.endKeyset, State.endJob, work]

theorem unwrapped_of_transport {transport : TransportKey} (h : s.transport = some transport) (k : Nat) :
    s.unwrapped l k = decipher transport.key (imageRecord l.buffer k).wrapped := by
  simp [State.unwrapped, h]

theorem checkMatches_of_key {k : Nat} {key : Key} (h : keys[k]? = some key) :
    checkMatches l keys k = decide (checkBytes (encipher key 0) = (imageRecord l.buffer k).checkValue) := by
  simp [checkMatches, checkValueOf, h]

/-- A commit with a mismatch posts COMMIT_FAILED with the first record that failed (R31). -/
theorem completeCommit_mismatch {m : Nat} (failed : results[m]? = some false)
    (before : ∀ x, x < m → results[x]? = some true) :
    s.completeCommit l keys results = (s.setStager .idle).post (.commitFailed l.imageId (BitVec.ofNat 8 m)) := by
  have first : results.findIdx? (fun ok => !ok) = some m := by
    obtain ⟨lt, value⟩ := List.getElem?_eq_some_iff.mp failed
    refine List.findIdx?_eq_some_iff_getElem.mpr ⟨lt, by simp [value], fun x earlier => ?_⟩
    obtain ⟨_, passed⟩ := List.getElem?_eq_some_iff.mp (before x earlier)
    simp [passed]
  simp [State.completeCommit, first]

/-- A commit without a mismatch whose re-check passes installs every record (R32 to R34). -/
theorem completeCommit_installs (passed : false ∉ results) (free : firstConflict s.slots [] l.records = none)
    (room : recordCount l.declared ≤ emptySlots s.slots) :
    s.completeCommit l keys results = ((s.setStager .idle).setSlots (installEach s.slots (l.records.zip keys)).1).post
      (.committed l.imageId (installEach s.slots (l.records.zip keys)).2) := by
  have none_failed : results.findIdx? (fun ok => !ok) = none := by
    refine List.findIdx?_eq_none_iff.mpr fun ok mem => ?_
    cases ok
    · exact absurd mem passed
    · rfl
  simp [State.completeCommit, none_failed, free, room]

end

/-! ### The install (R33) -/

/-- The indices of the EMPTY slots, lowest first. -/
def emptyIndices (slots : List Slot) : List Nat :=
  (List.range slots.length).filter fun n => (heldAt slots n).isNone

theorem emptyIndices_cons (x : Slot) (slots : List Slot) :
    emptyIndices (x :: slots) =
      if x.isEmpty = true then 0 :: (emptyIndices slots).map (· + 1) else (emptyIndices slots).map (· + 1) := by
  have shifted : ((fun n => (heldAt (x :: slots) n).isNone) ∘ (· + 1)) = fun n => (heldAt slots n).isNone := by
    funext n
    simp [heldAt]
  simp only [emptyIndices, List.length_cons, List.range_succ_eq_map, List.filter_cons, List.filter_map]
  rw [show Nat.succ = (· + 1) from rfl, shifted]
  rfl

theorem mem_emptyIndices {slots : List Slot} {n : Nat} :
    n ∈ emptyIndices slots ↔ ∃ x, slots[n]? = some x ∧ x.isEmpty = true := by
  simp only [emptyIndices, List.mem_filter, List.mem_range, heldAt, Slot.isEmpty]
  constructor
  · rintro ⟨lt, empty⟩
    exact ⟨slots[n], List.getElem?_eq_getElem lt, by simpa [List.getElem?_eq_getElem lt] using empty⟩
  · rintro ⟨x, at_n, empty⟩
    exact ⟨(List.getElem?_eq_some_iff.mp at_n).1, by simpa [at_n] using empty⟩

theorem length_emptyIndices (slots : List Slot) : (emptyIndices slots).length = emptySlots slots := by
  induction slots with
  | nil => rfl
  | cons x slots ih =>
    rw [emptyIndices_cons]
    by_cases empty : x.isEmpty = true <;> simp_all [emptySlots]

/-- The lowest EMPTY slot, once a key is installed in it, is no longer among the EMPTY slots, and the others remain. -/
theorem emptyIndices_install {slots : List Slot} {i : Nat} (lowest : slots.findIdx? Slot.isEmpty = some i)
    (r : ImageRecord) (key : Key) :
    emptyIndices slots = i :: emptyIndices (slots.modify i fun x => x.install r key) := by
  induction slots generalizing i with
  | nil => simp at lowest
  | cons x slots ih =>
    rw [List.findIdx?_cons] at lowest
    split at lowest
    · rename_i empty
      cases lowest
      have filled : (x.install r key).isEmpty = false := rfl
      simp [emptyIndices_cons, empty, filled]
    · rename_i used
      obtain ⟨i, at_i, rfl⟩ := Option.map_eq_some_iff.mp lowest
      simp [emptyIndices_cons, used, ih at_i]

/-- A slot in which a key is installed is not EMPTY. -/
theorem not_mem_emptyIndices_install (slots : List Slot) (i : Nat) (r : ImageRecord) (key : Key) :
    i ∉ emptyIndices (slots.modify i fun x => x.install r key) := by
  intro mem
  obtain ⟨y, filled, empty⟩ := mem_emptyIndices.mp mem
  obtain ⟨z, -, rfl⟩ := Option.map_eq_some_iff.mp (List.getElem?_modify_eq .. ▸ filled)
  simp [Slot.isEmpty, Slot.install] at empty

/-- One record of an install takes the lowest EMPTY slot, which there is; the others follow (R33). -/
theorem installEach_cons {slots : List Slot} {r : ImageRecord} {key : Key} {rest : List (ImageRecord × Key)}
    (room : rest.length + 1 ≤ emptySlots slots) :
    ∃ i, slots.findIdx? Slot.isEmpty = some i ∧
      rest.length ≤ emptySlots (slots.modify i fun x => x.install r key) ∧
      installEach slots ((r, key) :: rest) =
        ((installEach (slots.modify i fun x => x.install r key) rest).1,
          i :: (installEach (slots.modify i fun x => x.install r key) rest).2) := by
  cases lowest : slots.findIdx? Slot.isEmpty with
  | none =>
    have full : emptySlots slots = 0 := by
      simpa [emptySlots, List.countP_eq_zero] using List.findIdx?_eq_none_iff.mp lowest
    omega
  | some i =>
    have count := congrArg List.length (emptyIndices_install lowest r key)
    simp only [List.length_cons, length_emptyIndices] at count
    exact ⟨i, rfl, by omega, by simp [installEach, lowest]⟩

/-- The records of an install take the lowest EMPTY slots in image order. -/
theorem installEach_indices {slots : List Slot} {installs : List (ImageRecord × Key)}
    (room : installs.length ≤ emptySlots slots) :
    (installEach slots installs).2 = (emptyIndices slots).take installs.length := by
  induction installs generalizing slots with
  | nil => rfl
  | cons pair rest ih =>
    obtain ⟨i, lowest, room', step⟩ := installEach_cons (r := pair.1) (key := pair.2) room
    rw [step, emptyIndices_install lowest pair.1 pair.2, ih room']
    rfl

/-- An install leaves the slots that it does not take. -/
theorem installEach_other {slots : List Slot} {installs : List (ImageRecord × Key)}
    (room : installs.length ≤ emptySlots slots) {n : Nat} (other : n ∉ (emptyIndices slots).take installs.length) :
    (installEach slots installs).1[n]? = slots[n]? := by
  induction installs generalizing slots with
  | nil => rfl
  | cons pair rest ih =>
    obtain ⟨i, lowest, room', step⟩ := installEach_cons (r := pair.1) (key := pair.2) room
    rw [emptyIndices_install lowest pair.1 pair.2, List.length_cons, List.take_succ_cons, List.mem_cons, not_or] at other
    obtain ⟨ne, other⟩ := other
    rw [step, ih room' other]
    simp [Ne.symm ne]

/-- Each record of an install gives its slot its fields, its key and the next install epoch. -/
theorem installEach_taken {slots : List Slot} {installs : List (ImageRecord × Key)}
    (room : installs.length ≤ emptySlots slots) {m n : Nat} {r : ImageRecord} {key : Key} {x : Slot}
    (at_m : installs[m]? = some (r, key)) (index : ((emptyIndices slots).take installs.length)[m]? = some n)
    (at_n : slots[n]? = some x) : (installEach slots installs).1[n]? = some (x.install r key) := by
  induction installs generalizing slots m with
  | nil => simp at at_m
  | cons pair rest ih =>
    obtain ⟨i, lowest, room', step⟩ := installEach_cons (r := pair.1) (key := pair.2) room
    rw [emptyIndices_install lowest pair.1 pair.2, List.length_cons, List.take_succ_cons] at index
    have stays := not_mem_emptyIndices_install slots i pair.1 pair.2
    rw [step]
    cases m with
    | zero =>
      obtain rfl : pair = (r, key) := by simpa using at_m
      obtain rfl : i = n := by simpa using index
      rw [installEach_other room' fun mem => stays (List.mem_of_mem_take mem)]
      simp [at_n]
    | succ m =>
      rw [List.getElem?_cons_succ] at at_m index
      have mem := List.mem_of_mem_take (List.mem_of_getElem? index)
      have ne : i ≠ n := by rintro rfl; exact stays mem
      exact ih room' at_m index (by simp [ne, at_n])

/-- Settles O46, by the two rules of a keyset job's operations and an induction over the records installed. -/
theorem keysetJobOperations : Obligations.KeysetJobOperations := by
  refine ⟨fun s name masterKey j l keys results runs work => ⟨?_, ?_, ?_⟩, fun slots installs room => ⟨?_, ?_, ?_⟩⟩
  · intro k op rest operations serves transport present
    rw [exec_keyset_middle runs work operations serves, State.workAfter, unwrapped_of_transport present]
  · intro k op rest operations serves key present
    rw [exec_keyset_middle runs work operations serves, State.workAfter, checkMatches_of_key present]
  · intro k key operations present
    have last := exec_keyset_last runs work operations
    rw [checkMatches_of_key present] at last
    refine ⟨fun m failed before => ?_, fun passed free room => ?_⟩
    · rw [last, completeCommit_mismatch failed before]
    · rw [last, completeCommit_installs (s := s.endJob j.sequence) passed free room]
      rfl
  · exact installEach_indices room
  · exact fun n other => installEach_other room other
  · exact fun m n r key x at_m index at_n => installEach_taken room at_m index at_n

end Sys2Proof.Machine.Loading

/-! Generation rollover (R38 to R51): what the checks of a ROLLOVER answer in their order, when the next phase of a record is
applied, and how a ROLLBACK brings the four slots back to the row of phase 0. -/

namespace Sys2Proof.Machine.Scheduling

open Loading (exec_outcome issuerValid_iff findSlot_eq_none_iff)

/-! ### Requests, issuers and records -/

/-- A request that the gate refuses in STARTING, HALTED and ZEROIZED is refused there before its owner sees it (R163); after a
zeroize also when it was handed over (R165). -/
theorem refusedFirst_of_gate {i : Instr} {own : State → State × Answer} (owned : ownerOf i = some own)
    (wf : i.wellFormed = true) (starting : gate .starting i = some .notReady) (halted : gate .halted i = some .halted)
    (zeroized : gate .zeroized i = some .zeroized) : RefusedFirst i := by
  intro s running
  have refused {r} (h : s.linkRefusal i = some r) : Refuses i s r :=
    (exec_of_ownerOf owned wf s).trans (request_refused running h)
  refine ⟨fun service new => refused ?_, fun service new => refused ?_, fun service => refused ?_⟩
  · rw [State.linkRefusal_of_not_handed new, service, starting]
  · rw [State.linkRefusal_of_not_handed new, service, halted]
  · simp [State.linkRefusal, service, zeroized]

theorem issuerValid_eq_false_iff (issuer : Issuer) : issuerValid issuer = false ↔ issuer = 0 ∨ issuer = 0xFFFF := by
  rw [← Bool.not_eq_true, issuerValid_iff, not_and_or, not_not, not_not]

theorem findRollover_eq_none_iff (records : List Rollover) (issuer : Issuer) :
    findRollover records issuer = none ↔ ∀ r ∈ records, r.issuer ≠ issuer := by
  simp [findRollover]

theorem issuer_of_findRollover {records : List Rollover} {issuer : Issuer} {r : Rollover}
    (h : findRollover records issuer = some r) : r.issuer = issuer :=
  of_decide_eq_true (List.find?_some (p := fun r : Rollover => decide (r.issuer = issuer)) h)

/-! ### The slots of a rollover (R41) -/

section
variable {slots : List Slot} {issuer : Issuer} {generation : Generation} {role : Role} {state required : KeyState} {n : Nat}

/-- The slot that holds the key of a triple is the one found for it, since no other slot holds that triple (R1). -/
theorem findSlot_of_holds (unique : triplesUnique slots) (h : holds slots n issuer generation role state) :
    findSlot slots issuer generation role = some n := by
  obtain ⟨k, held, sameIssuer, sameGeneration, sameRole, -⟩ := h
  cases found : findSlot slots issuer generation role with
  | none => exact absurd ⟨sameIssuer, sameGeneration, sameRole⟩ (findSlot_eq_none found n k held)
  | some m =>
    obtain ⟨x, held', rfl, rfl, rfl⟩ := findSlot_eq_some found
    rw [unique m n x k held' held sameIssuer.symm sameGeneration.symm sameRole.symm]

theorem requireSlot_of_holds (unique : triplesUnique slots) (h : holds slots n issuer generation role required) :
    requireSlot slots issuer generation role required = .ok n := by
  have found := findSlot_of_holds unique h
  obtain ⟨k, held, -, -, -, rfl⟩ := h
  simp [requireSlot, found, held]

theorem requireSlot_of_missing (missing : ∀ n state, ¬ holds slots n issuer generation role state) :
    requireSlot slots issuer generation role required = .error (.noKey (roleCode role) none generation) := by
  have absent : findSlot slots issuer generation role = none :=
    (findSlot_eq_none_iff ..).mpr fun n k held ⟨sameIssuer, sameGeneration, sameRole⟩ =>
      missing n k.state ⟨k, held, sameIssuer, sameGeneration, sameRole, rfl⟩
  simp [requireSlot, absent]

theorem requireSlot_of_otherState (unique : triplesUnique slots) (h : holds slots n issuer generation role state)
    (other : state ≠ required) :
    requireSlot slots issuer generation role required = .error (.slotState n state generation role) := by
  have found := findSlot_of_holds unique h
  obtain ⟨k, held, -, rfl, rfl, rfl⟩ := h
  simp [requireSlot, found, held, other]

/-- A slot that is missing or in another state gives the refusal of R41. -/
theorem requireSlot_of_slotRefusal (unique : triplesUnique slots) {r : Refuse}
    (h : slotRefusal slots issuer generation role required r) :
    requireSlot slots issuer generation role required = .error r := by
  obtain ⟨missing, rfl⟩ | ⟨n, state, held, other, rfl⟩ := h
  · rw [requireSlot_of_missing missing]
    cases role <;> rfl
  · exact requireSlot_of_otherState unique held other

end

/-! ### ROLLOVER (R40 to R43) -/

theorem startTaken_eq_max (second : Nat) (start : BitVec 32) : startTaken second start = max start.toNat second := by
  unfold startTaken
  split <;> omega

section
variable {s : State} {issuer : Issuer} {a b : Generation} {start : BitVec 32} {d1 d2 d3 : BitVec 16} {now p1 p2 p3 p4 : Nat}

/-- Check 2 of R40 passes. -/
theorem rolloverFieldFault_none (valid : issuerValid issuer = true) (apart : a ≠ b) (le1 : d1.toNat ≤ 10080)
    (le2 : d2.toNat ≤ 10080) (le3 : d3.toNat ≤ 10080) (le4 : p4 ≤ 4294967295) :
    rolloverFieldFault issuer a b d1 d2 d3 p4 = none := by
  simp [rolloverFieldFault, valid, apart, le1.not_gt, le2.not_gt, le3.not_gt, le4.not_gt]

/-- Checks 3 and 4 of R40 pass: no record of the issuer, and room for one more; what is left is check 5. -/
theorem planRollover_refused (free : findRollover s.rollovers issuer = none) (room : s.rollovers.length < 8) {r : Refuse}
    (slots : rolloverSlots s.slots issuer a b = .error r) : s.planRollover issuer a b p1 p2 p3 p4 = .error r := by
  simp [State.planRollover, free, Nat.not_le.mpr room, slots]

theorem planRollover_planned (free : findRollover s.rollovers issuer = none) (room : s.rollovers.length < 8)
    {x1 x2 x3 x4 : Nat} (slots : rolloverSlots s.slots issuer a b = .ok (x1, x2, x3, x4)) :
    s.planRollover issuer a b p1 p2 p3 p4 = .ok ⟨issuer, a, b, x1, x2, x3, x4, p1, p2, p3, p4, 0⟩ := by
  simp [State.planRollover, free, Nat.not_le.mpr room, slots]

variable (clock : s.clock.time = some now) (time1 : p1 = max start.toNat (now / 1000)) (time2 : p2 = p1 + 60 * d1.toNat)
  (time3 : p3 = p2 + 60 * d2.toNat) (time4 : p4 = p3 + 60 * d3.toNat)
include clock time1 time2 time3 time4

theorem ownRollover_badField {offset : Byte} (fault : rolloverFieldFault issuer a b d1 d2 d3 p4 = some offset) :
    ownRollover issuer a b start d1 d2 d3 s = (s, .refuse (.badField offset 0)) := by
  subst time1 time2 time3 time4
  simp [ownRollover, clock, startTaken_eq_max, fault]

theorem ownRollover_refused (sound : rolloverFieldFault issuer a b d1 d2 d3 p4 = none) {r : Refuse}
    (plan : s.planRollover issuer a b p1 p2 p3 p4 = .error r) :
    ownRollover issuer a b start d1 d2 d3 s = (s, .refuse r) := by
  subst time1 time2 time3 time4
  simp [ownRollover, clock, startTaken_eq_max, sound, plan]

theorem ownRollover_planned (sound : rolloverFieldFault issuer a b d1 d2 d3 p4 = none) {r : Rollover}
    (plan : s.planRollover issuer a b p1 p2 p3 p4 = .ok r) :
    ownRollover issuer a b start d1 d2 d3 s = (s.setRollovers (addRollover r s.rollovers),
      .rolloverPlanned r.p1 r.p2 r.p3 r.p4 r.aAuth r.aSeal r.bAuth r.bSeal) := by
  subst time1 time2 time3 time4
  simp [ownRollover, clock, startTaken_eq_max, sound, plan]

end

/-- Settles O34: the checks of a ROLLOVER one after another, each with the equation for the first that fails. -/
theorem rolloverOutcomes : Obligations.RolloverOutcomes := by
  intro s issuer a b start d1 d2 d3 taken i
  have outcome {t answer} := exec_outcome (t := t) (a := answer) (i := i) rfl rfl taken
  refine ⟨fun unset => outcome (by simp [ownRollover, unset]), ?_⟩
  intro now clock p1 p2 p3 p4
  have badField {offset} (fault : rolloverFieldFault issuer a b d1 d2 d3 p4 = some offset) :
      Refuses i s (.badField offset 0) := outcome (ownRollover_badField clock rfl rfl rfl rfl fault)
  refine ⟨fun reserved => badField ?_, fun ne0 neF => ?_⟩
  · simp [rolloverFieldFault, (issuerValid_eq_false_iff issuer).mpr reserved]
  have valid : issuerValid issuer = true := (issuerValid_iff issuer).mpr ⟨ne0, neF⟩
  refine ⟨fun same => badField ?_, fun apart => ⟨fun gt1 => badField ?_, fun le1 gt2 => badField ?_,
    fun le1 le2 gt3 => badField ?_, fun le1 le2 le3 => ⟨fun gt4 => badField ?_, fun le4 => ?_⟩⟩⟩
  · simp [rolloverFieldFault, valid, same]
  · simp [rolloverFieldFault, valid, apart, gt1]
  · simp [rolloverFieldFault, valid, apart, le1.not_gt, gt2]
  · simp [rolloverFieldFault, valid, apart, le1.not_gt, le2.not_gt, gt3]
  · simp [rolloverFieldFault, valid, apart, le1.not_gt, le2.not_gt, le3.not_gt, gt4]
  have sound : rolloverFieldFault issuer a b d1 d2 d3 p4 = none := rolloverFieldFault_none valid apart le1 le2 le3 le4
  have refused {r} (plan : s.planRollover issuer a b p1 p2 p3 p4 = .error r) : Refuses i s r :=
    outcome (ownRollover_refused clock rfl rfl rfl rfl sound plan)
  refine ⟨fun r found => refused ?_, fun others => ?_⟩
  · have found : findRollover s.rollovers issuer = some r := found
    simp [State.planRollover, found]
  have free : findRollover s.rollovers issuer = none := (findRollover_eq_none_iff ..).mpr others
  refine ⟨fun full => refused ?_, fun room => ⟨fun unique r => ?_, fun x1 x2 x3 x4 unique h1 h2 h3 h4 => ?_⟩⟩
  · simp [State.planRollover, free, full]
  · have slotRefused (slots : rolloverSlots s.slots issuer a b = .error r) : Refuses i s r :=
      refused (planRollover_refused free room slots)
    refine ⟨fun fails => slotRefused ?_, fun x1 h1 => ⟨fun fails => slotRefused ?_, fun x2 h2 =>
      ⟨fun fails => slotRefused ?_, fun x3 h3 fails => slotRefused ?_⟩⟩⟩
    · simp [rolloverSlots, requireSlot_of_slotRefusal unique fails]
    · simp [rolloverSlots, requireSlot_of_holds unique h1, requireSlot_of_slotRefusal unique fails]
    · simp [rolloverSlots, requireSlot_of_holds unique h1, requireSlot_of_holds unique h2,
        requireSlot_of_slotRefusal unique fails]
    · simp [rolloverSlots, requireSlot_of_holds unique h1, requireSlot_of_holds unique h2,
        requireSlot_of_holds unique h3, requireSlot_of_slotRefusal unique fails]
  · have slots : rolloverSlots s.slots issuer a b = .ok (x1, x2, x3, x4) := by
      simp [rolloverSlots, requireSlot_of_holds unique h1, requireSlot_of_holds unique h2,
        requireSlot_of_holds unique h3, requireSlot_of_holds unique h4]
    exact outcome (ownRollover_planned clock rfl rfl rfl rfl sound (planRollover_planned free room slots))

/-! ### Phases (R44 to R48) -/

section
variable {s : State} {issuer : Issuer} {r : Rollover}

/-- A phase whose time lane time has not reached leaves the part as it is (log 3). -/
theorem phaseDue_of_early (found : findRollover s.rollovers issuer = some r)
    (early : ∀ now, s.clock.time = some now → now < r.nextTime * 1000) : State.phaseDue issuer s = s := by
  have notDue : s.due (r.nextTime * 1000) = false := by
    cases clock : s.clock.time with
    | none => simp [State.due, clock]
    | some now => simp [State.due, clock, early now clock]
  simp [State.phaseDue, found, notDue]

theorem phaseDue_of_due (found : findRollover s.rollovers issuer = some r) {now : Nat} (clock : s.clock.time = some now)
    (reached : r.nextTime * 1000 ≤ now) : State.phaseDue issuer s = s.applyPhase r := by
  simp [State.phaseDue, found, State.due, clock, reached]

/-- Phases 1 to 3 change the slots and the phase reached (R45 to R47). -/
theorem applyPhase_advances (early : r.reached < 3) : s.applyPhase r =
    ((s.setSlots (r.advanceSlots s.slots)).setRollovers
      (s.rollovers.map fun x => if x.issuer = r.issuer then { x with reached := x.reached + 1 } else x)).post
        (.rolloverPhase r.issuer r.a r.b (r.reached + 1) .applied r.nextTime) := by
  simp only [State.applyPhase, if_pos early]

/-- Phase 4 removes the record and withdraws the A slots (R48). -/
theorem applyPhase_retires (last : r.reached = 3) : s.applyPhase r =
    ((s.setRollovers (removeRollover s.rollovers r.issuer)).withdraw (r.retiring s.slots)).post
      (.rolloverPhase r.issuer r.a r.b (r.reached + 1) .applied r.nextTime) := by
  have late : ¬ r.reached < 3 := by omega
  simp only [State.applyPhase, if_neg late]

end

/-- Settles O35, by the four phases of a record that is due. -/
theorem phasesAreApplied : Obligations.PhasesAreApplied := by
  intro s issuer r running found _ time reaching applied
  have nextTime : time = r.nextTime := by
    simp only [time, Rollover.nextTime]
    split <;> simp_all
  have found : findRollover s.rollovers issuer = some r := found
  have event : exec (.phaseDue issuer) s = .next (State.phaseDue issuer s) := event_running running
  obtain rfl := issuer_of_findRollover found
  refine ⟨fun early => ?_, fun now clock due => ?_⟩
  · rw [event, phaseDue_of_early found (nextTime ▸ early)]
  · rw [event, phaseDue_of_due found clock (nextTime ▸ due)]
    simp only [applied, reaching, nextTime]
    refine ⟨fun phase => ?_, fun phase => ?_, fun phase => ?_, fun phase => ?_⟩
    · rw [applyPhase_advances (by omega), Rollover.advanceSlots, if_pos phase]
    · rw [applyPhase_advances (by omega)]
      simp [Rollover.advanceSlots, phase]
    · rw [applyPhase_advances (by omega)]
      simp [Rollover.advanceSlots, phase]
    · rw [applyPhase_retires phase]
      rfl

/-! ### What a change of key state leaves unchanged (R3) -/

/-- Slots that differ in the key states of some indices only. -/
structure Restates (changed : List Nat) (slots after : List Slot) : Prop where
  length : after.length = slots.length
  other : ∀ n, n ∉ changed → after[n]? = slots[n]?
  kept : ∀ (n : Nat) (x y : Slot), slots[n]? = some x → after[n]? = some y → y.epoch = x.epoch ∧ y.bound = x.bound ∧
    y.held.map (fun k => { k with state := .active }) = x.held.map fun k => { k with state := .active }

theorem Restates.refl (changed : List Nat) (slots : List Slot) : Restates changed slots slots where
  length := rfl
  other := fun _ _ => rfl
  kept := fun n x y hx hy => by
    obtain rfl : x = y := Option.some.inj (hx.symm.trans hy)
    exact ⟨rfl, rfl, rfl⟩

theorem Restates.setKeyState {changed : List Nat} {slots after : List Slot} (h : Restates changed slots after) {i : Nat}
    (mem : i ∈ changed) (state : KeyState) : Restates changed slots (setKeyState after i state) where
  length := (List.length_modify ..).trans h.length
  other := fun n notMem => by
    have ne : i ≠ n := by rintro rfl; exact notMem mem
    rw [Machine.setKeyState, List.getElem?_modify, h.other n notMem]
    simp [ne]
  kept := fun n x y hx hy => by
    rw [Machine.setKeyState, List.getElem?_modify] at hy
    obtain ⟨z, hz, rfl⟩ := Option.map_eq_some_iff.mp hy
    obtain ⟨epoch, bound, key⟩ := h.kept n x z hx hz
    split
    · exact ⟨epoch, bound, by rw [← key, Option.map_map]; rfl⟩
    · exact ⟨epoch, bound, key⟩

theorem Restates.ite {changed : List Nat} {slots before after : List Slot} (no : Restates changed slots before)
    (c : Prop) [Decidable c] (yes : Restates changed slots after) :
    Restates changed slots (if c then after else before) := by
  split
  · exact yes
  · exact no

/-- A ROLLBACK changes the key states of its four slots and nothing else of the slots (R51). -/
theorem restates_undoSlots (r : Rollover) (slots : List Slot) :
    Restates [r.aAuth, r.aSeal, r.bAuth, r.bSeal] slots (r.undoSlots slots) := by
  have same := Restates.refl [r.aAuth, r.aSeal, r.bAuth, r.bSeal] slots
  have undone3 := same.ite (3 ≤ r.reached) (same.setKeyState (i := r.aAuth) (by simp) .active)
  have undone2 := undone3.ite (2 ≤ r.reached)
    ((undone3.setKeyState (i := r.bSeal) (by simp) .standby).setKeyState (i := r.aSeal) (by simp) .active)
  exact undone2.ite (1 ≤ r.reached) (undone2.setKeyState (i := r.bAuth) (by simp) .standby)

/-! ### The states of a record's four slots (R39) -/

theorem holds_ne {slots : List Slot} {i j : Nat} {issuer issuer' : Issuer} {generation generation' : Generation}
    {role role' : Role} {state state' : KeyState} (hi : holds slots i issuer generation role state)
    (hj : holds slots j issuer' generation' role' state') (apart : generation ≠ generation' ∨ role ≠ role') : i ≠ j := by
  rintro rfl
  obtain ⟨k, held, -, rfl, rfl, -⟩ := hi
  obtain ⟨x, held', -, rfl, rfl, -⟩ := hj
  obtain rfl : k = x := Option.some.inj (held.symm.trans held')
  simp at apart

theorem holds_setKeyState {slots : List Slot} {j : Nat} {issuer : Issuer} {generation : Generation} {role : Role}
    {state : KeyState} (h : holds slots j issuer generation role state) (i : Nat) (next : KeyState) :
    holds (setKeyState slots i next) j issuer generation role (if i = j then next else state) := by
  obtain ⟨k, held, sameIssuer, sameGeneration, sameRole, sameState⟩ := h
  rw [holds, heldAt_setKeyState, held]
  split
  · exact ⟨_, rfl, sameIssuer, sameGeneration, sameRole, rfl⟩
  · exact ⟨k, rfl, sameIssuer, sameGeneration, sameRole, sameState⟩

/-- The four slots of a record hold its keys in the states given, A AUTH, A SEAL, B AUTH, B SEAL. -/
structure StandsAs (r : Rollover) (slots : List Slot) (row : KeyState × KeyState × KeyState × KeyState) : Prop where
  aAuth : holds slots r.aAuth r.issuer r.a .auth row.1
  aSeal : holds slots r.aSeal r.issuer r.a .seal row.2.1
  bAuth : holds slots r.bAuth r.issuer r.b .auth row.2.2.1
  bSeal : holds slots r.bSeal r.issuer r.b .seal row.2.2.2

theorem lawful_iff (r : Rollover) (slots : List Slot) :
    r.lawful slots ↔ r.reached ≤ 3 ∧ r.a ≠ r.b ∧ StandsAs r slots (phaseRow r.reached) :=
  ⟨fun ⟨reached, apart, h1, h2, h3, h4⟩ => ⟨reached, apart, h1, h2, h3, h4⟩,
    fun ⟨reached, apart, h1, h2, h3, h4⟩ => ⟨reached, apart, h1, h2, h3, h4⟩⟩

section
variable {r : Rollover} {slots : List Slot} {wA xA wB xB : KeyState}

/-- The four slots of a record are four different slots. -/
theorem StandsAs.nodup (h : StandsAs r slots (wA, xA, wB, xB)) (apart : r.a ≠ r.b) :
    [r.aAuth, r.aSeal, r.bAuth, r.bSeal].Nodup := by
  simp [holds_ne h.aAuth h.aSeal (.inr nofun), holds_ne h.aAuth h.bAuth (.inl apart),
    holds_ne h.aAuth h.bSeal (.inl apart), holds_ne h.aSeal h.bAuth (.inl apart), holds_ne h.aSeal h.bSeal (.inl apart),
    holds_ne h.bAuth h.bSeal (.inr nofun)]

/-- A change of key state at one index changes the row where the record names that index. -/
theorem StandsAs.setKeyState (h : StandsAs r slots (wA, xA, wB, xB)) (i : Nat) (next : KeyState) :
    StandsAs r (setKeyState slots i next) (if i = r.aAuth then next else wA, if i = r.aSeal then next else xA,
      if i = r.bAuth then next else wB, if i = r.bSeal then next else xB) where
  aAuth := holds_setKeyState h.aAuth i next
  aSeal := holds_setKeyState h.aSeal i next
  bAuth := holds_setKeyState h.bAuth i next
  bSeal := holds_setKeyState h.bSeal i next

/-- Undoing the phases reached, the last one first, takes the four slots up the rows of R39 to the row of phase 0 (R51). -/
theorem standsAs_undoSlots (reached : r.reached ≤ 3) (apart : r.a ≠ r.b) (h : StandsAs r slots (phaseRow r.reached)) :
    StandsAs r (r.undoSlots slots) (phaseRow 0) := by
  obtain ⟨⟨ne12, ne13, ne14⟩, ⟨ne23, ne24⟩, ne34⟩ := by simpa using h.nodup apart
  have undone3 {l} (h : StandsAs r l (phaseRow 3)) : StandsAs r (Machine.setKeyState l r.aAuth .active) (phaseRow 2) := by
    simpa [phaseRow, ne12, ne13, ne14] using h.setKeyState r.aAuth .active
  have undone2 {l} (h : StandsAs r l (phaseRow 2)) :
      StandsAs r (Machine.setKeyState (Machine.setKeyState l r.bSeal .standby) r.aSeal .active) (phaseRow 1) := by
    simpa [phaseRow, Ne.symm ne12, ne23, ne24, Ne.symm ne14, Ne.symm ne24, Ne.symm ne34]
      using (h.setKeyState r.bSeal .standby).setKeyState r.aSeal .active
  have undone1 {l} (h : StandsAs r l (phaseRow 1)) : StandsAs r (Machine.setKeyState l r.bAuth .standby) (phaseRow 0) := by
    simpa [phaseRow, Ne.symm ne13, Ne.symm ne23, ne34] using h.setKeyState r.bAuth .standby
  obtain phase | phase | phase | phase : r.reached = 0 ∨ r.reached = 1 ∨ r.reached = 2 ∨ r.reached = 3 := by omega
  all_goals
    rw [phase] at h
    simp only [Rollover.undoSlots, phase, Nat.reduceLeDiff, if_true, if_false]
  · exact h
  · exact undone1 h
  · exact undone1 (undone2 h)
  · exact undone1 (undone2 (undone3 h))

end

/-! ### ROLLBACK (R51) -/

theorem ownRollback_undoes {s : State} {issuer : Issuer} (valid : issuerValid issuer = true) {r : Rollover}
    (found : findRollover s.rollovers issuer = some r) : ownRollback issuer s =
      (((s.setSlots (r.undoSlots s.slots)).setRollovers (removeRollover s.rollovers issuer)).post
        (.rolloverPhase issuer r.a r.b r.reached .rolledBack 0), .rolledBack r.a r.b r.reached) := by
  simp [ownRollback, valid, found]

/-- Settles O36: the phases are undone one after another, and a change of key state keeps the rest of a slot. -/
theorem rollbackUndoesThePhases : Obligations.RollbackUndoesThePhases := by
  refine fun s issuer => ⟨refusedFirst_of_gate (i := .rollback issuer) rfl rfl rfl rfl rfl, fun taken => ?_⟩
  have outcome {t a} := exec_outcome (t := t) (a := a) (i := .rollback issuer) rfl rfl taken
  refine ⟨fun reserved => outcome ?_, fun ne0 neF => ?_⟩
  · rw [ownRollback, if_pos ((issuerValid_eq_false_iff issuer).mpr reserved)]
  have valid : issuerValid issuer = true := (issuerValid_iff issuer).mpr ⟨ne0, neF⟩
  refine ⟨fun others => outcome ?_, fun r found lawful => ⟨r.undoSlots s.slots, ?_, ?_⟩⟩
  · simp [ownRollback, valid, (findRollover_eq_none_iff ..).mpr others]
  · exact outcome (ownRollback_undoes valid found)
  · obtain rfl := issuer_of_findRollover found
    obtain ⟨reached, apart, stands⟩ := (lawful_iff ..).mp lawful
    obtain ⟨aAuth, aSeal, bAuth, bSeal⟩ := standsAs_undoSlots reached apart stands
    obtain ⟨length, other, kept⟩ := restates_undoSlots r s.slots
    exact ⟨aAuth, aSeal, bAuth, bSeal, length, fun n n1 n2 n3 n4 => other n (by simp [n1, n2, n3, n4]), kept⟩

end Sys2Proof.Machine.Scheduling

/-! The Derived Key Cache (R56 to R72): what an insertion, a PREFETCH and a PURGE do, and how the derivations of a prefetch
job and the operations that no unit goes on with end. -/

namespace Sys2Proof.Machine.Caching

open Loading (exec_outcome issuerValid_iff findJob_of_runs updateJob_of_mem)
open Scheduling (issuerValid_eq_false_iff)

/-! ### Eviction (R62) -/

theorem evictLast_sublist {cache room : List CacheEntry} (h : evictLast cache = some room) : room.Sublist cache := by
  induction cache generalizing room with
  | nil => cases h
  | cons e rest ih =>
    unfold evictLast at h
    split at h
    · rename_i rest' below
      cases h
      exact (ih below).cons_cons e
    · split at h <;> cases h
      exact List.sublist_cons_self e _

theorem makeRoom_sublist {cache room : List CacheEntry} (h : makeRoom cache = some room) : room.Sublist cache := by
  unfold makeRoom at h
  split at h
  · cases h
    exact List.Sublist.refl _
  · exact evictLast_sublist h

theorem evictLast_of_pinned {cache : List CacheEntry} (pinned : ∀ e ∈ cache, e.pin.isSome = true) :
    evictLast cache = none := by
  induction cache with
  | nil => rfl
  | cons e rest ih =>
    have held : e.pin.isNone = false := by simpa using pinned e List.mem_cons_self
    simp [evictLast, ih fun x hx => pinned x (List.mem_cons_of_mem e hx), held]

/-- The victim is the unpinned entry that stands last (R62). -/
theorem evictLast_append {front back : List CacheEntry} {victim : CacheEntry} (unpinned : victim.pin = none)
    (pinned : ∀ e ∈ back, e.pin.isSome = true) : evictLast (front ++ victim :: back) = some (front ++ back) := by
  induction front with
  | nil => simp [evictLast, evictLast_of_pinned pinned, unpinned]
  | cons e rest ih => simp [evictLast, ih]

/-! ### Insertion (R61) -/

/-- What an insertion leaves of an entry when the live entry of its quadruple is found: that entry takes the pin (R61). -/
def merged (issuer : Issuer) (serial : Serial) (generation : Generation) (role : Role) (pin : Option Handle) (e : CacheEntry) :
    CacheEntry :=
  if e.isLiveFor issuer serial generation role = true then { e with pin := pin.or e.pin } else e

/-- The pinning of a live entry is the merging of a pin (R63). -/
theorem pinEntry_cache (s : State) (h : Handle) (issuer : Issuer) (serial : Serial) (generation : Generation) (role : Role) :
    (s.pinEntry h issuer serial generation role).cache = s.cache.map (merged issuer serial generation role (some h)) := rfl

theorem merged_none (issuer : Issuer) (serial : Serial) (generation : Generation) (role : Role) :
    merged issuer serial generation role none = id := by
  funext e
  simp [merged]

section
variable {s : State} {issuer : Issuer} {serial : Serial} {generation : Generation} {role : Role} {slot : Nat} {epoch : Epoch}

/-- A derivation from an install that is gone is discarded (R61). -/
theorem insert_stale (gone : ∀ k n, s.slots[slot]? ≠ some ⟨some k, epoch, n⟩) (pin : Option Handle)
    (masterKey : Option Key) : s.insert issuer serial generation role slot epoch pin masterKey = s := by
  unfold State.insert
  split
  · rename_i k current n found
    split
    · rename_i same
      exact absurd (same ▸ found) (gone k n)
    · rfl
  · rfl

/-- The live entry of the quadruple moves to place 1 and takes the pin (R61). -/
theorem insert_hit {k : MasterKey} {n : Nat} (present : s.slots[slot]? = some ⟨some k, epoch, n⟩)
    (hit : cacheHit s.cache issuer serial generation role = true) (pin : Option Handle) (masterKey : Option Key) :
    s.insert issuer serial generation role slot epoch pin masterKey =
      s.setCache ((moveToFront (CacheEntry.isLiveFor issuer serial generation role) s.cache).map
        (merged issuer serial generation role pin)) := by
  cases pin with
  | none => simp [State.insert, present, hit, merged_none, State.touch]
  | some h =>
    simp only [State.insert, present, hit, if_true]
    rfl

/-- Without a live entry of the quadruple a new entry joins at place 1, when there is room for it (R61, R62). -/
theorem insert_miss {k : MasterKey} {n : Nat} (present : s.slots[slot]? = some ⟨some k, epoch, n⟩)
    (miss : cacheHit s.cache issuer serial generation role = false) (pin : Option Handle) (masterKey : Option Key) :
    s.insert issuer serial generation role slot epoch pin masterKey =
      match masterKey, makeRoom s.cache with
      | some key, some room =>
        s.setCache (⟨issuer, serial, generation, role, tagKey key serial issuer generation role, slot, epoch, pin, none⟩
          :: room)
      | _, _ => s := by
  simp only [State.insert, present, miss, if_true]
  rfl

end

/-- Settles O25, by the three equations of an insertion. -/
theorem insertionOutcomes : Obligations.InsertionOutcomes := by
  intro s issuer serial generation role slot epoch pin masterKey after isLive entry
  refine ⟨fun gone => insert_stale gone pin _, fun k n present => ⟨fun hit => ?_, fun miss => ?_⟩⟩
  · have live : ∀ e ∈ s.cache.filter isLive, merged issuer serial generation role pin e = { e with pin := pin.or e.pin } :=
      fun e he => if_pos (List.mem_filter.mp he).2
    have other : ∀ e ∈ s.cache.filter fun e => !isLive e, merged issuer serial generation role pin e = id e :=
      fun e he => if_neg (by simpa [isLive] using (List.mem_filter.mp he).2)
    calc after = _ := insert_hit present hit pin _
      _ = _ := by
        rw [moveToFront, List.map_append, List.map_congr_left live, List.map_congr_left other, List.map_id]
  · have event := insert_miss present miss pin (some masterKey)
    refine ⟨fun room => ?_, fun full front victim back split unpinned pinned => ?_⟩
    · rw [show makeRoom s.cache = some s.cache from if_pos room] at event
      exact event
    · have evicted : makeRoom s.cache = some (front ++ back) := by
        rw [makeRoom, if_neg (Nat.not_lt.mpr full), split, evictLast_append unpinned pinned]
      rw [evicted] at event
      exact event

/-! ### PREFETCH (R68, R69) -/

section
variable {s : State} {issuer : Issuer} {serial : Serial} {generation : Generation} {auth : Binding}
  {sealKey : Binding × Generation}

/-- A PREFETCH whose slots resolve goes on to its lookups (R68). -/
theorem ownPrefetch_resolved (on : s.service = .serviceOn) (valid : issuerValid issuer = true)
    (hauth : resolveAuth s.slots issuer generation s.nowSeconds = .ok auth)
    (hseal : resolveSeal s.slots issuer generation s.nowSeconds = .ok sealKey) :
    ownPrefetch issuer serial generation s = s.prefetchResolved issuer serial generation auth sealKey := by
  simp [ownPrefetch, on, valid, hauth, hseal]

theorem prefetchResolved_cached (authHit : cacheHit s.cache issuer serial generation .auth = true)
    (sealHit : cacheHit s.cache issuer serial sealKey.2 .seal = true) :
    s.prefetchResolved issuer serial generation auth sealKey =
      (s.prefetchLookups issuer serial generation sealKey.2, .prefetched .cached) := by
  simp [State.prefetchResolved, authHit, sealHit]

variable (missing : cacheHit s.cache issuer serial generation .auth = false ∨
  cacheHit s.cache issuer serial sealKey.2 .seal = false)
include missing

theorem prefetchResolved_dropped (full : s.thermal.state = .suspended ∨ 15 ≤ prefetchJobs s.jobs) :
    s.prefetchResolved issuer serial generation auth sealKey =
      (s.prefetchLookups issuer serial generation sealKey.2, .prefetched .dropped) := by
  have notBoth := (Bool.and_eq_false_iff).mpr missing
  simp [State.prefetchResolved, notBoth, full]

theorem prefetchResolved_queued (awake : s.thermal.state ≠ .suspended) (room : prefetchJobs s.jobs < 15) :
    s.prefetchResolved issuer serial generation auth sealKey =
      (let operations := prefetchOperations generation auth sealKey (cacheHit s.cache issuer serial generation .auth)
        (cacheHit s.cache issuer serial sealKey.2 .seal)
      (((s.prefetchLookups issuer serial generation sealKey.2).place (.prefetch issuer serial) operations s.nowMs).arbitrate,
        .prefetched (.queued operations.length))) := by
  have notBoth := (Bool.and_eq_false_iff).mpr missing
  simp [State.prefetchResolved, notBoth, awake, Nat.not_le.mpr room]

end

/-- Settles O23: the cases of R68 one after another, each with the equation of the event. -/
theorem prefetchOutcomes : Obligations.PrefetchOutcomes := by
  intro s issuer serial generation i
  refine ⟨fun taken off => exec_outcome (i := i) rfl rfl taken (by simp [ownPrefetch, off]), fun ⟨running, on⟩ => ?_⟩
  have outcome {t a} := exec_outcome (t := t) (a := a) (i := i) rfl rfl ⟨running, .inr (.inl on)⟩
  refine ⟨fun bad => outcome ?_, fun ne0 neF => ?_⟩
  · simp [ownPrefetch, on, (issuerValid_eq_false_iff issuer).mpr bad]
  have valid := (issuerValid_iff issuer).mpr ⟨ne0, neF⟩
  refine ⟨fun r noAuth => outcome (by simp [ownPrefetch, on, valid, noAuth]), fun auth hauth =>
    ⟨fun r noSeal => outcome (by simp [ownPrefetch, on, valid, hauth, noSeal]), ?_⟩⟩
  intro sealKey sealGeneration hseal authHit sealHit isAuth isSeal authFirst looked
  have event := ownPrefetch_resolved (serial := serial) on valid hauth hseal
  exact ⟨fun ha hs => outcome (event.trans (prefetchResolved_cached ha hs)), fun missing =>
    ⟨fun full => outcome (event.trans (prefetchResolved_dropped missing full)), fun awake room =>
      outcome (event.trans (prefetchResolved_queued missing awake room))⟩⟩

/-! ### PURGE (R66) -/

theorem exponentTaken_eq (exponent : Byte) :
    exponentTaken exponent = if 32 < exponent.toNat then 32 else exponent.toNat := by
  simp [exponentTaken, clamp]

theorem rangeFirst_eq (base : Serial) (e : Nat) : rangeFirst base e = base.toNat - base.toNat % 2 ^ e := by
  have := Nat.div_add_mod' base.toNat (2 ^ e)
  unfold rangeFirst
  omega

/-- The aligned range of 2^e serials, by its first serial (R66). -/
theorem inRange_iff (base serial : Serial) (e : Nat) :
    inRange base e serial = true ↔ rangeFirst base e ≤ serial.toNat ∧ serial.toNat < rangeFirst base e + 2 ^ e := by
  rw [inRange, decide_eq_true_eq, Nat.div_eq_iff (Nat.two_pow_pos e), rangeFirst]
  have := Nat.two_pow_pos e
  omega

theorem purgeable_eq (issuer : Issuer) (base : Serial) (e : Nat) (x : CacheEntry) :
    x.purgeable issuer base e = decide (x.issuer = issuer ∧ rangeFirst base e ≤ x.serial.toNat ∧
      x.serial.toNat < rangeFirst base e + 2 ^ e ∧ x.doom = none) := by
  rw [Bool.eq_iff_iff]
  simp [CacheEntry.purgeable, inRange_iff, and_assoc]

/-- Settles O24: the entries that a PURGE finds are those of the aligned range. -/
theorem purgeActsOnItsRange : Obligations.PurgeActsOnItsRange := by
  intro s issuer base exponent taken
  have outcome {t a} := exec_outcome (t := t) (a := a) (i := .purge issuer base exponent) rfl rfl taken
  refine ⟨fun bad => outcome ?_, fun ne0 neF => ?_⟩
  · simp [ownPurge, (issuerValid_eq_false_iff issuer).mpr bad]
  intro e first hit
  have found : ∀ x : CacheEntry, x.purgeable issuer base e = hit x := by
    intro x
    rw [purgeable_eq, rangeFirst_eq]
  have left : CacheEntry.purged issuer base e = fun x =>
      if hit x = false then some x else if x.pin = none then none else some { x with doom := some .purged } := by
    funext x
    rw [CacheEntry.purged, found]
    cases hit x <;> cases x.pin <;> rfl
  have isNone : ∀ x : CacheEntry, x.pin.isNone = decide (x.pin = none) := fun x => by cases x.pin <;> rfl
  have isSome : ∀ x : CacheEntry, x.pin.isSome = decide (x.pin ≠ none) := fun x => by cases x.pin <;> rfl
  refine outcome ?_
  simp only [ownPurge, exponentTaken_eq, (issuerValid_iff issuer).mpr ⟨ne0, neF⟩, Bool.true_eq_false, if_false]
  rw [left, rangeFirst_eq]
  simp only [← found, isNone, isSome, e]
  rfl

/-! ### The operations of prefetch jobs, of cancelled jobs and of units that stopped serving (R69, R119 to R122) -/

section
variable {s : State} {name : UnitName} {masterKey : Option Key} {j : Job} {op next : Operation} {rest : List Operation}

theorem operationComplete_cancelled {sequence : Nat} (activity : (s.unit name).activity = .running sequence masterKey)
    (cancelled : ∀ j ∈ s.jobs, j.sequence ≠ sequence) :
    State.operationComplete name s = (s.freeUnit name).arbitrate := by
  have gone : findJob s.jobs sequence = none := List.find?_eq_none.mpr fun j mem => by simpa using cancelled j mem
  simp [State.operationComplete, activity, gone]

theorem operationComplete_idle (idle : (s.unit name).activity = .free ∨ (s.unit name).activity = .testing) :
    State.operationComplete name s = s := by
  rcases idle with idle | idle <;> simp [State.operationComplete, idle]

theorem operationComplete_last (runs : s.runs name masterKey j) (operations : j.operations = [op]) :
    State.operationComplete name s = s.lastOperation name j op masterKey := by
  have found := findJob_of_runs runs
  obtain ⟨-, activity, -, -⟩ := runs
  simp [State.operationComplete, activity, found, operations]

theorem operationComplete_middle (runs : s.runs name masterKey j) (operations : j.operations = op :: next :: rest) :
    State.operationComplete name s = s.middleOperation name j op (next :: rest) masterKey := by
  have found := findJob_of_runs runs
  obtain ⟨-, activity, -, -⟩ := runs
  simp [State.operationComplete, activity, found, operations]

/-- Only the last operation of a VERIFY job can end another job (R81, R84). -/
theorem handOver_jobs {work : Work} (notVerifying : ∀ h proof, work ≠ .verifying h proof) (op : Operation)
    (masterKey : Option Key) : (s.handOver work op masterKey).jobs = s.jobs := by
  cases work with
  | verifying h proof => exact absurd rfl (notVerifying h proof)
  | opening h issuer serial nonce challenge =>
    cases op <;> simp only [State.handOver, State.laneDerivation, State.finishProof, State.forOwner] <;> split <;> simp
  | sealing h record first =>
    cases op <;> simp only [State.handOver, State.laneDerivation, State.finishSealFirst, State.finishSeal, State.forOwner] <;>
      split <;> simp
  | keyset l keys results => rfl
  | prefetch issuer serial => cases op <;> simp [State.handOver, State.prefetchDerivation]

/-- A unit that has stopped serving returns its job to waiting (R121, R122). -/
theorem middleOperation_returned (mem : j ∈ s.jobs) (distinct : (s.jobs.map (·.sequence)).Nodup)
    (notVerifying : ∀ h proof, j.work ≠ .verifying h proof) (operations : j.operations = op :: next :: rest)
    (stopped : (s.unit name).serves s.suspended = false) :
    s.middleOperation name j op (next :: rest) masterKey =
      ((((s.handOver j.work op masterKey).setJobs (updateJob s.jobs j.sequence fun _ =>
        { j with work := s.workAfter j.work op, operations := next :: rest, running := false })).freeUnit name).arbitrate) := by
  simp only [State.middleOperation, stopped, Bool.false_eq_true, if_false, handOver_jobs notVerifying,
    updateJob_of_mem mem distinct fun x => { s.advanceJob op x with running := false }]
  simp only [State.advanceJob, operations, List.tail_cons]

/-- A serving unit goes on with the second derivation of a prefetch job (R69, R119). -/
theorem middleOperation_prefetch (mem : j ∈ s.jobs) (distinct : (s.jobs.map (·.sequence)).Nodup) {issuer : Issuer}
    {serial : Serial} (work : j.work = .prefetch issuer serial) {role : Role} {generation : Generation} {slot : Nat}
    {epoch : Epoch} (operations : j.operations = [.derive role generation slot epoch, next])
    (serves : (s.unit name).serves s.suspended = true) :
    s.middleOperation name j (.derive role generation slot epoch) [next] masterKey =
      (s.insert issuer serial generation role slot epoch none masterKey).goesOn name (masterKeyFor s.slots (some next))
        { j with operations := [next] } := by
  have advanced : s.advanceJob (.derive role generation slot epoch) j = { j with operations := [next] } := by
    simp [State.advanceJob, State.workAfter, work, operations]
  have same : (s.insert issuer serial generation role slot epoch none masterKey).unit name = s.unit name := by
    cases name <;> simp [State.unit]
  simp [State.middleOperation, State.handOver, State.prefetchDerivation, State.goesOn, work, serves, same,
    updateJob_of_mem mem distinct (s.advanceJob _), advanced]

/-- After its last derivation a prefetch job ends (R69, R119). -/
theorem lastOperation_prefetch {issuer : Issuer} {serial : Serial} (work : j.work = .prefetch issuer serial) {role : Role}
    {generation : Generation} {slot : Nat} {epoch : Epoch} :
    s.lastOperation name j (.derive role generation slot epoch) masterKey =
      ((((s.endJob j.sequence).insert issuer serial generation role slot epoch none masterKey).freeUnit name).arbitrate) := by
  simp [State.lastOperation, State.handOver, State.prefetchDerivation, State.endKeyset, State.workAfter, State.endJob, work]

end

/-- A VERIFY job has one operation, so a job with two is none (R114). -/
theorem not_verifying_of_suits {j : Job} (suits : j.suits) {op next : Operation} {rest : List Operation}
    (operations : j.operations = op :: next :: rest) (h : Handle) (proof : Half) : j.work ≠ .verifying h proof := by
  intro work
  simp [Job.suits, work, operations] at suits

/-- Settles O47: the event by the activity of the unit and the operations that its job has left. -/
theorem prefetchedDiscardedAndReturned : Obligations.PrefetchedDiscardedAndReturned := by
  intro s name masterKey
  have complete (running : s.power = .running) :
      exec (.operationComplete name) s = .next (State.operationComplete name s) := event_running running
  refine ⟨fun sequence running activity cancelled => ?_, fun running idle => ?_, fun j runs => ?_⟩
  · rw [complete running, operationComplete_cancelled activity cancelled, State.freeUnit]
  · rw [complete running, operationComplete_idle idle]
  obtain ⟨running, -, mem, distinct⟩ := id runs
  refine ⟨?_, ?_, ?_⟩
  · intro issuer serial role generation slot epoch work operations
    rw [complete running, operationComplete_last runs operations, lastOperation_prefetch work]
  · intro issuer serial role generation slot epoch next work operations serves
    rw [complete running, operationComplete_middle runs operations,
      middleOperation_prefetch mem distinct work operations serves]
  · intro op next rest suits operations stopped handed
    rw [complete running, operationComplete_middle runs operations,
      middleOperation_returned mem distinct (not_verifying_of_suits suits operations) operations stopped]

end Sys2Proof.Machine.Caching

/-! The laws of the cache (R57, R62, R63): a change of the cache takes entries out, releases or dooms them, or lets one in for
which the law of its install and of its pin holds; a change of the slots or of the table keeps the installs and the contexts
that the entries name. -/

namespace Sys2Proof.Machine.CacheLaws

open Caching (merged insert_stale insert_hit insert_miss makeRoom_sublist pinEntry_cache)

/-! ### Installs (R1, R57) -/

/-- Every slot that holds a key still holds one, at the same install epoch. -/
def KeepsInstalls (slots after : List Slot) : Prop :=
  ∀ (n : Nat) (x : Slot), slots[n]? = some x → x.held.isSome = true →
    ∃ y, after[n]? = some y ∧ y.held.isSome = true ∧ y.epoch = x.epoch

theorem KeepsInstalls.refl (slots : List Slot) : KeepsInstalls slots slots := fun _ x at_n held => ⟨x, at_n, held, rfl⟩

theorem KeepsInstalls.trans {slots between after : List Slot} (h : KeepsInstalls slots between)
    (k : KeepsInstalls between after) : KeepsInstalls slots after := by
  intro n x at_n held
  obtain ⟨y, at_y, held_y, epoch_y⟩ := h n x at_n held
  obtain ⟨z, at_z, held_z, epoch_z⟩ := k n y at_y held_y
  exact ⟨z, at_z, held_z, epoch_z.trans epoch_y⟩

theorem KeepsInstalls.current {slots after : List Slot} (h : KeepsInstalls slots after) {b : Binding}
    (current : b.current slots) : b.current after := by
  obtain ⟨x, at_b, held, epoch⟩ := current
  obtain ⟨y, at_y, held_y, epoch_y⟩ := h b.slot x at_b held
  exact ⟨y, at_y, held_y, epoch_y.trans epoch⟩

theorem keepsInstalls_modify (slots : List Slot) (i : Nat) {f : Slot → Slot}
    (keeps : ∀ x, slots[i]? = some x → x.held.isSome = true → (f x).held.isSome = true ∧ (f x).epoch = x.epoch) :
    KeepsInstalls slots (slots.modify i f) := by
  intro n x at_n held
  rw [List.getElem?_modify, at_n]
  by_cases same : i = n
  · obtain ⟨held', epoch⟩ := keeps x (same ▸ at_n) held
    exact ⟨f x, by simp [same], held', epoch⟩
  · exact ⟨x, by simp [same], held, rfl⟩

theorem keepsInstalls_lowerBound (slots : List Slot) (i : Nat) : KeepsInstalls slots (lowerBound slots i) :=
  keepsInstalls_modify slots i fun _ _ held => ⟨held, rfl⟩

theorem keepsInstalls_raiseBound (slots : List Slot) (i : Nat) : KeepsInstalls slots (raiseBound slots i) :=
  keepsInstalls_modify slots i fun _ _ held => ⟨held, rfl⟩

theorem keepsInstalls_setKeyState (slots : List Slot) (i : Nat) (state : KeyState) :
    KeepsInstalls slots (setKeyState slots i state) :=
  keepsInstalls_modify slots i fun _ _ held => ⟨by simpa using held, rfl⟩

theorem keepsInstalls_unbind (c : Context) (slots : List Slot) : KeepsInstalls slots (unbind c slots) := by
  have auth : KeepsInstalls slots (if c.authTaint then slots else lowerBound slots c.auth.slot) := by
    split
    · exact .refl slots
    · exact keepsInstalls_lowerBound slots _
  unfold unbind
  dsimp only
  split
  · exact auth
  · exact auth.trans (keepsInstalls_lowerBound _ _)

theorem keepsInstalls_advanceSlots (r : Rollover) (slots : List Slot) : KeepsInstalls slots (r.advanceSlots slots) := by
  unfold Rollover.advanceSlots
  split
  · exact keepsInstalls_setKeyState slots _ _
  split
  · exact (keepsInstalls_setKeyState slots _ _).trans (keepsInstalls_setKeyState _ _ _)
  · exact keepsInstalls_setKeyState slots _ _

/-- A ROLLBACK changes key states only (R51). -/
theorem keepsInstalls_undoSlots (r : Rollover) (slots : List Slot) : KeepsInstalls slots (r.undoSlots slots) := by
  obtain ⟨length, -, kept⟩ := Scheduling.restates_undoSlots r slots
  intro n x at_n held
  have lt : n < (r.undoSlots slots).length := length ▸ (List.getElem?_eq_some_iff.mp at_n).1
  have at_y := List.getElem?_eq_getElem lt
  obtain ⟨epoch, -, key⟩ := kept n x _ at_n at_y
  exact ⟨_, at_y, by simpa using (congrArg Option.isSome key).trans (by simpa using held), epoch⟩

/-- An install takes EMPTY slots only (R33). -/
theorem keepsInstalls_installEach (slots : List Slot) (installs : List (ImageRecord × Key)) :
    KeepsInstalls slots (installEach slots installs).1 := by
  induction installs generalizing slots with
  | nil => exact .refl slots
  | cons pair rest ih =>
    unfold installEach
    split
    · exact .refl slots
    · rename_i i lowest
      refine .trans (keepsInstalls_modify slots i fun x at_i held => ?_) (ih _)
      obtain ⟨lt, isEmpty, -⟩ := List.findIdx?_eq_some_iff_getElem.mp lowest
      obtain rfl : slots[i] = x := Option.some.inj ((List.getElem?_eq_getElem lt).symm.trans at_i)
      simp_all [Slot.isEmpty]

theorem getElem?_emptyEach {withdrawn : List Nat} {n : Nat} (other : n ∉ withdrawn) (slots : List Slot) :
    (emptyEach slots withdrawn)[n]? = slots[n]? := by
  induction withdrawn generalizing slots with
  | nil => rfl
  | cons i rest ih =>
    obtain ⟨ne, other⟩ := not_or.mp (mt List.mem_cons.mpr other)
    have step := ih other (slots.modify i fun x => { x with held := none, bound := 0 })
    rw [List.getElem?_modify_ne _ _ (Ne.symm ne)] at step
    exact step

/-- An install that a withdrawal does not reach stays (R10). -/
theorem current_emptyEach {slots : List Slot} {withdrawn : List Nat} {b : Binding} (current : b.current slots)
    (spared : reaches slots withdrawn b.slot b.epoch = false) : b.current (emptyEach slots withdrawn) := by
  obtain ⟨x, at_b, held, epoch⟩ := current
  have other : b.slot ∉ withdrawn := by simpa [reaches, at_b, held, epoch] using spared
  exact ⟨x, (getElem?_emptyEach other slots).trans at_b, held, epoch⟩

/-! ### Pins (R63) -/

/-- A context in this state may hold a pin for a role (R63). -/
def PinState (role : Role) (state : ContextState) : Prop :=
  ∃ l, state = .live l ∧ (role = .auth → l = .opening ∨ l = .awaitTag ∨ l = .verifying)

/-- A handle names a context that may hold a pin for a role (R63, R74). -/
def MayPin (places : List Place) (h : Handle) (role : Role) : Prop :=
  ∃ i c, i = h.toNat % 64 ∧ i < 48 ∧ places[i]? = some ⟨h.toNat / 64, some c⟩ ∧ PinState role c.state

theorem mayPin_iff (s : State) (h : Handle) (role : Role) :
    MayPin s.places h role ↔ ∃ i c, s.resolveHandle h = some (i, c) ∧ PinState role c.state := by
  simp only [MayPin, State.resolveHandle_eq_some, and_assoc]

/-- Every context is found by its handle (R74). -/
def Named (places : List Place) : Prop :=
  ∀ (i u : Nat) (c : Context), places[i]? = some ⟨u, some c⟩ → i = c.handle.toNat % 64 ∧ i < 48 ∧ u = c.handle.toNat / 64

theorem named_of_workLawful {s : State} (work : s.workLawful) : Named s.places := by
  obtain ⟨-, found, -⟩ := work
  intro i u c at_i
  obtain ⟨index, lt, at_i'⟩ :=
    State.resolveHandle_eq_some.mp (found i c (State.contextAt_eq_some.mpr ⟨u, at_i⟩))
  exact ⟨index, lt, by simpa using at_i.symm.trans at_i'⟩

/-- Two handles of one index and one use count are equal (R74). -/
theorem handle_eq {h k : Handle} (index : h.toNat % 64 = k.toNat % 64) (use : h.toNat / 64 = k.toNat / 64) : h = k :=
  BitVec.eq_of_toNat_eq (by omega)

/-- The table after a change of the context at an index. -/
def modifyContext (places : List Place) (i : Nat) (f : Context → Context) : List Place :=
  places.modify i fun p => { p with context := p.context.map f }

theorem updateContext_places (s : State) (i : Nat) (f : Context → Context) :
    (s.updateContext i f).places = modifyContext s.places i f := rfl

theorem Named.modifyContext {places : List Place} (named : Named places) (i : Nat) {f : Context → Context}
    (handle : ∀ c, (f c).handle = c.handle) : Named (modifyContext places i f) := by
  intro n u c at_n
  rw [CacheLaws.modifyContext, List.getElem?_modify] at at_n
  obtain ⟨⟨u', o⟩, at_n', changed⟩ := Option.map_eq_some_iff.mp at_n
  split at changed
  · obtain ⟨rfl, context⟩ : u' = u ∧ o.map f = some c := by simpa using changed
    obtain ⟨d, rfl, rfl⟩ := Option.map_eq_some_iff.mp context
    rw [handle]
    exact named n u' d at_n'
  · exact named n u c (at_n'.trans (congrArg some changed))

/-- The table after a withdrawal has given its taint flags (R12). -/
def taintedPlaces (slots : List Slot) (withdrawn : List Nat) (places : List Place) : List Place :=
  places.map fun p => { p with context := p.context.map (Context.tainted slots withdrawn) }

/-- The taint of a withdrawal changes neither the handles nor the states of the contexts. -/
theorem getElem?_tainted {slots : List Slot} {withdrawn : List Nat} {places : List Place} {n u : Nat} {c : Context} :
    (taintedPlaces slots withdrawn places)[n]? = some ⟨u, some c⟩ ↔
      ∃ d, places[n]? = some ⟨u, some d⟩ ∧ d.tainted slots withdrawn = c := by
  rw [taintedPlaces, List.getElem?_map]
  constructor
  · intro h
    obtain ⟨⟨u', o⟩, at_n, changed⟩ := Option.map_eq_some_iff.mp h
    obtain ⟨rfl, context⟩ : u' = u ∧ o.map _ = some c := by simpa using changed
    obtain ⟨d, rfl, rfl⟩ := Option.map_eq_some_iff.mp context
    exact ⟨d, at_n, rfl⟩
  · rintro ⟨d, at_n, rfl⟩
    rw [at_n]
    rfl

theorem Named.tainted {places : List Place} (named : Named places) (slots : List Slot) (withdrawn : List Nat) :
    Named (taintedPlaces slots withdrawn places) := by
  intro n u c at_n
  obtain ⟨d, at_n', rfl⟩ := getElem?_tainted.mp at_n
  exact named n u d at_n'

theorem MayPin.tainted {places : List Place} {h : Handle} {role : Role} (may : MayPin places h role) (slots : List Slot)
    (withdrawn : List Nat) : MayPin (taintedPlaces slots withdrawn places) h role := by
  obtain ⟨i, c, index, lt, at_i, state⟩ := may
  exact ⟨i, _, index, lt, getElem?_tainted.mpr ⟨c, at_i, rfl⟩, state⟩

/-- A change of a context keeps the pins that it may hold, when its new state may hold them. -/
theorem MayPin.modifyContext {places : List Place} {h : Handle} {role : Role} (may : MayPin places h role) {i : Nat}
    {f : Context → Context} (keeps : ∀ c, i = h.toNat % 64 → places[i]? = some ⟨h.toNat / 64, some c⟩ →
      PinState role c.state → PinState role (f c).state) : MayPin (modifyContext places i f) h role := by
  obtain ⟨n, c, index, lt, at_n, state⟩ := may
  have changed := congrArg (Option.map fun p : Place => if i = n then { p with context := p.context.map f } else p) at_n
  rw [Option.map_eq_map.symm, ← List.getElem?_modify] at changed
  by_cases same : i = n
  · subst same
    exact ⟨i, f c, index, lt, by simpa [CacheLaws.modifyContext] using changed, keeps c index at_n state⟩
  · exact ⟨n, c, index, lt, by simpa [CacheLaws.modifyContext, same] using changed, state⟩

/-- An index that no context of a pin has can be written. -/
theorem MayPin.write {places : List Place} {h : Handle} {role : Role} (may : MayPin places h role) {i : Nat}
    {f : Place → Place} (other : ∀ c, i = h.toNat % 64 → places[i]? ≠ some ⟨h.toNat / 64, some c⟩) :
    MayPin (places.modify i f) h role := by
  obtain ⟨n, c, index, lt, at_n, state⟩ := may
  have ne : i ≠ n := by
    rintro rfl
    exact other c index at_n
  exact ⟨n, c, index, lt, (List.getElem?_modify_ne _ _ ne).trans at_n, state⟩

/-! ### The laws of one entry and of the cache -/

/-- The laws of one entry (R57, R62, R63). -/
structure EntryLaws (slots : List Slot) (places : List Place) (e : CacheEntry) : Prop where
  current : e.doom = none → Binding.current slots ⟨e.sourceSlot, e.sourceEpoch⟩
  doomed : e.doom.isSome = true → e.pin.isSome = true
  pin : ∀ h, e.pin = some h → MayPin places h e.role

/-- The laws of the cache beside the slots and the table that its entries name. -/
structure Lawful (cache : List CacheEntry) (slots : List Slot) (places : List Place) : Prop where
  apart : cache.Pairwise CacheEntry.apart
  entries : ∀ e ∈ cache, EntryLaws slots places e

theorem cacheLawful_iff (s : State) : s.cacheLawful ↔ Lawful s.cache s.slots s.places := by
  have pins (h : Handle) (role : Role) : MayPin s.places h role ↔ ∃ i c l, s.resolveHandle h = some (i, c) ∧
      c.state = .live l ∧ (role = .auth → l = .opening ∨ l = .awaitTag ∨ l = .verifying) := by
    simp only [mayPin_iff, PinState, exists_and_left]
  constructor
  · rintro ⟨apart, current, doomed, pin⟩
    exact ⟨apart, fun e he => ⟨current e he, doomed e he, fun h hp => (pins h e.role).mpr (pin e he h hp)⟩⟩
  · rintro ⟨apart, entries⟩
    exact ⟨apart, fun e he => (entries e he).current, fun e he => (entries e he).doomed,
      fun e he h hp => (pins h e.role).mp ((entries e he).pin h hp)⟩

theorem lawful_nil (slots : List Slot) (places : List Place) : Lawful [] slots places := ⟨.nil, by simp⟩

theorem apart_symm {a b : CacheEntry} (h : a.apart b) : b.apart a :=
  fun hb ha same => h ha hb ⟨same.1.symm, same.2.1.symm, same.2.2.1.symm, same.2.2.2.symm⟩

/-- What an entry has become: its quadruple is the same, and it has not come back to life. -/
structure Follows (e x : CacheEntry) : Prop where
  issuer : x.issuer = e.issuer
  serial : x.serial = e.serial
  generation : x.generation = e.generation
  role : x.role = e.role
  doom : x.doom = none → e.doom = none

theorem Follows.refl (e : CacheEntry) : Follows e e := ⟨rfl, rfl, rfl, rfl, id⟩

theorem Follows.apart {a b x y : CacheEntry} (ha : Follows a x) (hb : Follows b y) (h : a.apart b) : x.apart y := by
  intro hx hy same
  rw [ha.issuer, ha.serial, ha.generation, ha.role, hb.issuer, hb.serial, hb.generation, hb.role] at same
  exact h (ha.doom hx) (hb.doom hy) same

section
variable {cache : List CacheEntry} {slots after : List Slot} {places : List Place} (laws : Lawful cache slots places)
include laws

/-- Some entries leave and the others change, each within its laws. -/
theorem Lawful.filterMap {places' : List Place} {f : CacheEntry → Option CacheEntry}
    (follows : ∀ e x, f e = some x → Follows e x)
    (entries : ∀ e x, e ∈ cache → f e = some x → EntryLaws slots places e → EntryLaws after places' x) :
    Lawful (cache.filterMap f) after places' where
  apart := laws.apart.filterMap f fun a b h x hx y hy => (follows a x hx).apart (follows b y hy) h
  entries := fun x hx => by
    obtain ⟨e, he, hex⟩ := List.mem_filterMap.mp hx
    exact entries e x he hex (laws.entries e he)

theorem Lawful.sublist {room : List CacheEntry} (sub : room.Sublist cache) : Lawful room slots places :=
  ⟨laws.apart.sublist sub, fun e he => laws.entries e (sub.subset he)⟩

theorem Lawful.moveToFront (p : CacheEntry → Bool) : Lawful (moveToFront p cache) slots places := by
  have perm : (Machine.moveToFront p cache).Perm cache := List.filter_append_perm p cache
  exact ⟨(perm.pairwise_iff apart_symm).mpr laws.apart, fun e he => laws.entries e (perm.mem_iff.mp he)⟩

theorem Lawful.withSlots (keeps : KeepsInstalls slots after) : Lawful cache after places :=
  ⟨laws.apart, fun e he =>
    have law := laws.entries e he
    ⟨fun live => keeps.current (law.current live), law.doomed, law.pin⟩⟩

theorem Lawful.withPlaces {places' : List Place}
    (pins : ∀ e ∈ cache, ∀ h, e.pin = some h → MayPin places h e.role → MayPin places' h e.role) :
    Lawful cache slots places' :=
  ⟨laws.apart, fun e he =>
    have law := laws.entries e he
    ⟨law.current, law.doomed, fun h hp => pins e he h hp (law.pin h hp)⟩⟩

theorem Lawful.merged {issuer : Issuer} {serial : Serial} {generation : Generation} {role : Role} {pin : Option Handle}
    (may : ∀ h, pin = some h → MayPin places h role) :
    Lawful (cache.map (merged issuer serial generation role pin)) slots places := by
  rw [← List.filterMap_eq_map]
  refine laws.filterMap (fun e x hx => ?_) fun e x _ hx law => ?_
  · cases hx
    unfold Caching.merged
    split
    · exact ⟨rfl, rfl, rfl, rfl, id⟩
    · exact .refl e
  · cases hx
    unfold Caching.merged
    split
    · rename_i live
      have sameRole : e.role = role := by simp_all [CacheEntry.isLiveFor]
      refine ⟨law.current, fun doomed => ?_, fun h hp => ?_⟩
      · have := law.doomed doomed
        cases pin <;> simp_all
      · cases pin with
        | none => exact law.pin h hp
        | some k => exact sameRole ▸ may h hp
    · exact law

/-- A new entry joins, when no live entry has its quadruple (R57, R61). -/
theorem Lawful.cons {e : CacheEntry} (law : EntryLaws slots places e)
    (miss : cacheHit cache e.issuer e.serial e.generation e.role = false) : Lawful (e :: cache) slots places := by
  refine ⟨.cons (fun x hx _ live same => ?_) laws.apart, List.forall_mem_cons.mpr ⟨law, laws.entries⟩⟩
  have notLive := List.any_eq_false.mp miss x hx
  simp [CacheEntry.isLiveFor, same, live] at notLive

end

/-! ### The release of pins (R64) -/

/-- A context holds no pin for a role. -/
def Unpinned (cache : List CacheEntry) (h : Handle) (role : Role) : Prop := ∀ e ∈ cache, e.isPinnedBy h role = false

theorem released_cases {h : Handle} {role : Role} {e x : CacheEntry} (released : e.released h role = some x) :
    x = e ∨ (e.doom = none ∧ x = { e with pin := none }) := by
  unfold CacheEntry.released at released
  split at released
  · split at released
    · cases released
    · rename_i live
      cases released
      exact .inr ⟨by simpa using live, rfl⟩
  · cases released
    exact .inl rfl

theorem Lawful.released {cache : List CacheEntry} {slots : List Slot} {places : List Place} (laws : Lawful cache slots places)
    (h : Handle) (role : Role) : Lawful (cache.filterMap (CacheEntry.released h role)) slots places := by
  refine laws.filterMap (fun e x hx => ?_) fun e x _ hx law => ?_
  · obtain rfl | ⟨-, rfl⟩ := released_cases hx
    · exact .refl _
    · exact ⟨rfl, rfl, rfl, rfl, id⟩
  · obtain rfl | ⟨live, rfl⟩ := released_cases hx
    · exact law
    · exact ⟨law.current, by simp [live], by simp⟩

/-- The release of a pin leaves the context without it. -/
theorem unpinned_released (cache : List CacheEntry) (h : Handle) (role : Role) :
    Unpinned (cache.filterMap (CacheEntry.released h role)) h role := by
  intro x hx
  obtain ⟨e, -, released⟩ := List.mem_filterMap.mp hx
  unfold CacheEntry.released at released
  split at released
  · split at released <;> cases released
    simp [CacheEntry.isPinnedBy]
  · rename_i other
    cases released
    simpa using other

/-- The release of a pin gives no other. -/
theorem Unpinned.released {cache : List CacheEntry} {h : Handle} {role : Role} (unpinned : Unpinned cache h role)
    (k : Handle) (role' : Role) : Unpinned (cache.filterMap (CacheEntry.released k role')) h role := by
  intro x hx
  obtain ⟨e, he, hex⟩ := List.mem_filterMap.mp hx
  obtain rfl | ⟨-, rfl⟩ := released_cases hex
  · exact unpinned x he
  · simp [CacheEntry.isPinnedBy]

/-- The cache after the release of both pins of a context. -/
def releasedBoth (cache : List CacheEntry) (h : Handle) : List CacheEntry :=
  (cache.filterMap (CacheEntry.released h .auth)).filterMap (CacheEntry.released h .seal)

theorem Lawful.releasedBoth {cache : List CacheEntry} {slots : List Slot} {places : List Place}
    (laws : Lawful cache slots places) (h : Handle) : Lawful (releasedBoth cache h) slots places :=
  (laws.released h .auth).released h .seal

theorem pin_ne_of_mem_releasedBoth {cache : List CacheEntry} {h : Handle} {e : CacheEntry} (mem : e ∈ releasedBoth cache h) :
    e.pin ≠ some h := by
  intro pinned
  have notAuth := (unpinned_released cache h .auth).released h .seal e mem
  have notSeal := unpinned_released (cache.filterMap (CacheEntry.released h .auth)) h .seal e mem
  cases role : e.role <;> simp [CacheEntry.isPinnedBy, pinned, role] at notAuth notSeal

/-! ### Changes of one context (R63, R64) -/

section
variable {cache : List CacheEntry} {s : State} (laws : Lawful cache s.slots s.places) {h : Handle} {i : Nat} {c : Context}
  (found : s.resolveHandle h = some (i, c))
include laws found

/-- A context changes its state, and its pins that are left suit the new state. -/
theorem Lawful.changeContext {f : Context → Context}
    (pins : ∀ e ∈ cache, e.pin = some h → PinState e.role c.state → PinState e.role (f c).state) :
    Lawful cache s.slots (modifyContext s.places i f) := by
  obtain ⟨index, -, at_i⟩ := State.resolveHandle_eq_some.mp found
  refine laws.withPlaces fun e he k hk may => may.modifyContext fun d index' at_i' state => ?_
  obtain ⟨use, rfl⟩ : h.toNat / 64 = k.toNat / 64 ∧ c = d := by simpa using at_i.symm.trans at_i'
  obtain rfl := handle_eq (index.symm.trans index') use
  exact pins e he hk state

/-- A context whose pins are all released can change to any state. -/
theorem Lawful.failed (f : Context → Context) : Lawful (CacheLaws.releasedBoth cache h) s.slots (modifyContext s.places i f) :=
  (laws.releasedBoth h).changeContext found fun _ he hk => absurd hk (pin_ne_of_mem_releasedBoth he)

/-- The index of a context whose pins are all released can be freed. -/
theorem Lawful.freed (f : Place → Place) : Lawful (CacheLaws.releasedBoth cache h) s.slots (s.places.modify i f) := by
  obtain ⟨index, -, at_i⟩ := State.resolveHandle_eq_some.mp found
  refine (laws.releasedBoth h).withPlaces fun e he k hk may => may.write fun d index' at_i' => ?_
  obtain ⟨use, -⟩ : h.toNat / 64 = k.toNat / 64 ∧ c = d := by simpa using at_i.symm.trans at_i'
  obtain rfl := handle_eq (index.symm.trans index') use
  exact pin_ne_of_mem_releasedBoth he hk

end

/-! ### The shared operations -/

/-- The laws of the cache in a state. -/
def Cached (s : State) : Prop := Lawful s.cache s.slots s.places

theorem Cached.of_same {s t : State} (laws : Cached s) (cache : t.cache = s.cache) (slots : t.slots = s.slots)
    (places : t.places = s.places) : Cached t := by
  rw [Cached, cache, slots, places]
  exact laws

theorem Cached.of_empty {s : State} (empty : s.cache = []) : Cached s := by
  rw [Cached, empty]
  exact lawful_nil _ _

/-- An insertion for a context that may hold the pin, or unpinned, keeps the laws (R61, R62). -/
theorem Cached.insert {s : State} (laws : Cached s) {role : Role} {pin : Option Handle}
    (may : ∀ h, pin = some h → MayPin s.places h role) (issuer : Issuer) (serial : Serial) (generation : Generation)
    (slot : Nat) (epoch : Epoch) (masterKey : Option Key) :
    Cached (s.insert issuer serial generation role slot epoch pin masterKey) := by
  by_cases present : ∃ k n, s.slots[slot]? = some ⟨some k, epoch, n⟩
  · obtain ⟨k, n, at_slot⟩ := present
    cases hit : cacheHit s.cache issuer serial generation role with
    | true =>
      rw [insert_hit at_slot hit]
      exact (laws.moveToFront _).merged may
    | false =>
      rw [insert_miss at_slot hit]
      split
      · rename_i key room _ made
        have sub := makeRoom_sublist made
        refine (laws.sublist sub).cons ⟨fun _ => ⟨_, at_slot, rfl, rfl⟩, by simp, may⟩ ?_
        exact List.any_eq_false.mpr fun e he => List.any_eq_false.mp hit e (sub.subset he)
      · exact laws
  · rw [insert_stale fun k n at_slot => present ⟨k, n, at_slot⟩]
    exact laws

theorem Cached.touch {s : State} (laws : Cached s) (issuer : Issuer) (serial : Serial) (generation : Generation)
    (role : Role) : Cached (s.touch issuer serial generation role) :=
  laws.moveToFront _

theorem Cached.pinEntry {s : State} (laws : Cached s) {h : Handle} {role : Role} (may : MayPin s.places h role)
    (issuer : Issuer) (serial : Serial) (generation : Generation) : Cached (s.pinEntry h issuer serial generation role) := by
  have pinned := Lawful.merged laws (issuer := issuer) (serial := serial) (generation := generation) (pin := some h)
    fun k same => Option.some.inj same ▸ may
  simpa [Cached, pinEntry_cache] using pinned

theorem Cached.touchAndPin {s : State} (laws : Cached s) {h : Handle} {role : Role} (may : MayPin s.places h role)
    (hit : Bool) (issuer : Issuer) (serial : Serial) (generation : Generation) :
    Cached (s.touchAndPin hit h issuer serial generation role) := by
  unfold State.touchAndPin
  split
  · exact (laws.touch ..).pinEntry (by simpa using may) ..
  · exact laws

theorem Cached.releasePin {s : State} (laws : Cached s) (h : Handle) (role : Role) : Cached (s.releasePin h role) :=
  laws.released h role

theorem found_of_named {s : State} (named : Named s.places) {i : Nat} {c : Context} (at_i : s.contextAt i = some c) :
    s.resolveHandle c.handle = some (i, c) := by
  obtain ⟨u, at_i'⟩ := State.contextAt_eq_some.mp at_i
  obtain ⟨index, lt, rfl⟩ := named i u c at_i'
  exact State.resolveHandle_eq_some.mpr ⟨index, lt, at_i'⟩

/-- A context is failed after its pins are released (R64, R84). -/
theorem Cached.failContext {s : State} (laws : Cached s) (named : Named s.places) (i : Nat) (reason : FailReason)
    (posted : Bool) : Cached (s.failContext i reason posted) := by
  cases at_i : s.contextAt i with
  | none =>
    rw [State.failContext_of_not_live reason posted (by simp [at_i])]
    exact laws
  | some c =>
    cases state : c.state with
    | live l =>
      rw [State.failContext_of_live reason posted at_i state]
      have failed : Cached ((((s.updateContext i fun c => { c with state := .failed reason l, reserved := 0 }).cancelJobOf
          c.handle).releasePin c.handle .auth).releasePin c.handle .seal) := by
        simpa [Cached, State.releasePin, updateContext_places, releasedBoth] using
          Lawful.failed laws (found_of_named named at_i) fun c => { c with state := .failed reason l, reserved := 0 }
      dsimp only
      split
      · exact failed.of_same (by simp) (by simp) (by simp)
      · exact failed
    | sealed stamp sealBytes =>
      rw [State.failContext_of_not_live reason posted (by simp [at_i, Context.isLive, state])]
      exact laws
    | failed reason' failedFrom =>
      rw [State.failContext_of_not_live reason posted (by simp [at_i, Context.isLive, state])]
      exact laws

theorem failContext_named {s : State} (named : Named s.places) (i : Nat) (reason : FailReason) (posted : Bool) :
    Named (s.failContext i reason posted).places := by
  have failed (l : LiveState) :
      Named (s.updateContext i fun c => { c with state := .failed reason l, reserved := 0 }).places :=
    named.modifyContext i fun _ => rfl
  unfold State.failContext
  split
  · split
    · split <;> simpa using failed _
    · exact named
    · exact named
  · exact named

theorem Cached.failEach {s : State} (laws : Cached s) (named : Named s.places) (indices : List Nat) (reason : FailReason) :
    Cached (s.failEach indices reason) := by
  induction indices generalizing s with
  | nil => exact laws
  | cons i rest ih => exact ih (laws.failContext named i reason true) (failContext_named named i reason true)

/-- A context is freed after its pins are released (R64, R86). -/
theorem Cached.freeContext {s : State} (laws : Cached s) (named : Named s.places) {i : Nat} {c : Context}
    (at_i : s.contextAt i = some c) : Cached (s.freeContext i c) := by
  have freed := (Lawful.freed laws (found_of_named named at_i) fun p => { p with context := none }).withSlots
    (keepsInstalls_unbind c s.slots)
  simpa [Cached, State.freeContext, State.releasePin, releasedBoth] using freed

/-- What a withdrawal leaves of an entry (R11). -/
theorem withdrawn_cases {slots : List Slot} {withdrawn : List Nat} {e x : CacheEntry}
    (left : e.withdrawn slots withdrawn = some x) :
    (x = e ∧ (e.doom = none → reaches slots withdrawn e.sourceSlot e.sourceEpoch = false)) ∨
      (e.pin.isSome = true ∧ x = { e with doom := some .withdrawn }) := by
  unfold CacheEntry.withdrawn at left
  split at left
  · split at left <;> cases left
    exact .inr ⟨‹_›, rfl⟩
  · rename_i spared
    cases left
    exact .inl ⟨rfl, fun live => by simpa [live] using spared⟩

/-- A withdrawal takes the live entries of its slots away or dooms them, and fails contexts (R10 to R12). -/
theorem Cached.withdraw {s : State} (laws : Cached s) (named : Named s.places) (withdrawn : List Nat) :
    Cached (s.withdraw withdrawn) := by
  have purged : Cached (((s.setSlots (emptyEach s.slots withdrawn)).setCache
      (s.cache.filterMap (CacheEntry.withdrawn s.slots withdrawn))).setPlaces
      (taintedPlaces s.slots withdrawn s.places)) := by
    refine Lawful.filterMap laws (fun e x left => ?_) fun e x _ left law => ?_
    · obtain ⟨rfl, -⟩ | ⟨-, rfl⟩ := withdrawn_cases left
      · exact .refl _
      · exact ⟨rfl, rfl, rfl, rfl, by simp⟩
    · obtain ⟨rfl, spared⟩ | ⟨pinned, rfl⟩ := withdrawn_cases left
      · exact ⟨fun live => current_emptyEach (law.current live) (spared live), law.doomed,
          fun h hp => (law.pin h hp).tainted _ _⟩
      · exact ⟨by simp, fun _ => pinned, fun h hp => (law.pin h hp).tainted _ _⟩
  have failed := purged.failEach (named.tainted s.slots withdrawn) (s.indicesWhere
    (Context.jobReached s.slots s.jobs withdrawn)) .keyWithdrawn
  exact failed.of_same (by simp [State.withdraw, taintedPlaces]) (by simp [State.withdraw])
    (by simp [State.withdraw, taintedPlaces])

/-! ### Requests -/

/-- The index that an OPEN takes is the lowest free one (R74, R78). -/
theorem freeIndex_of_checkOpen {s : State} {lane issuer serial generation dwell} {p : OpenPlan}
    (passes : s.checkOpen lane issuer serial generation dwell = .ok p) : s.freeIndex = some p.index := by
  unfold State.checkOpen State.admission at passes
  dsimp only at passes
  repeat' split at passes
  all_goals cases passes
  assumption

/-- A new handle names its index and its use count (R74). -/
theorem nextHandle_parts (s : State) {index : Nat} (lt : index < 48) :
    (s.nextHandle index).toNat % 64 = index ∧ (s.nextHandle index).toNat / 64 = s.nextUse index := by
  have use : s.nextUse index < 1024 := by
    unfold State.nextUse
    split <;> omega
  rw [State.nextHandle, BitVec.toNat_ofNat]
  omega

/-- An OPEN pins entries for its new context at an index that was free (R63, R78). -/
theorem ownOpen_cached {s : State} (laws : Cached s) (size : s.places.length = 48)
    (lane issuer serial generation nonce dwell) : Cached (ownOpen lane issuer serial generation nonce dwell s).1 := by
  unfold ownOpen
  split
  · exact laws
  rename_i p passes
  obtain ⟨inside, free, -⟩ := List.findIdx?_eq_some_iff_getElem.mp (freeIndex_of_checkOpen passes)
  obtain ⟨index, use⟩ := nextHandle_parts s (size ▸ inside)
  dsimp only
  generalize context : s.newContext lane issuer serial generation nonce p = c
  have handle : c.handle = s.nextHandle p.index := by rw [← context]; rfl
  have opening : c.state = .live .opening := by rw [← context]; rfl
  have bound : Cached (((s.setPlaces (s.places.set p.index ⟨s.nextUse p.index, some c⟩)).setDraws (s.draws + 1)).setSlots
      (raiseBound (raiseBound s.slots p.auth.slot) p.sealKey.slot)) := by
    refine (Lawful.withPlaces laws fun e _ h _ may => ?_).withSlots
      ((keepsInstalls_raiseBound _ _).trans (keepsInstalls_raiseBound _ _))
    rw [List.set_eq_modify]
    refine may.write fun d _ at_i => ?_
    rw [List.getElem?_eq_getElem inside, Option.some.injEq] at at_i
    simp [at_i] at free
  have may (role : Role) : MayPin (s.places.set p.index ⟨s.nextUse p.index, some c⟩) c.handle role :=
    ⟨p.index, c, handle ▸ index.symm, size ▸ inside, by rw [handle, use, List.getElem?_set_self inside],
      .opening, opening, fun _ => .inl rfl⟩
  have pinned := (bound.touchAndPin (may .auth) p.authHit c.issuer c.serial c.generation).touchAndPin
    (h := c.handle) (role := .seal) (by simpa using may .seal) p.sealHit c.issuer c.serial c.sealGeneration
  exact pinned.of_same (by simp [State.takeOpen]) (by simp [State.takeOpen]) (by simp [State.takeOpen])

/-- A context changes its state and keeps its pins. -/
theorem Cached.updateContext {s : State} (laws : Cached s) {h : Handle} {i : Nat} {c : Context}
    (found : s.resolveHandle h = some (i, c)) {f : Context → Context}
    (pins : ∀ e ∈ s.cache, e.pin = some h → PinState e.role c.state → PinState e.role (f c).state) :
    Cached (s.updateContext i f) := by
  simpa [Cached, updateContext_places] using Lawful.changeContext laws found pins

theorem ownVerify_cached {s : State} (laws : Cached s) (named : Named s.places) (handle proof) :
    Cached (ownVerify handle proof s).1 := by
  unfold ownVerify
  split
  · exact laws
  split
  · exact laws
  rename_i i c found
  split
  · exact laws
  split
  · exact laws.failContext named i _ _
  · have verifying := laws.updateContext found (f := fun c => { c with state := .live .verifying })
      fun _ _ _ _ => ⟨.verifying, rfl, by simp⟩
    exact verifying.of_same (by simp) (by simp) (by simp)

/-- A context that has an AUTH pin is not AUTHENTICATED or SEALING (R63). -/
theorem role_eq_seal {role : Role} {l : LiveState} (state : PinState role (.live l))
    (late : l = .authenticated ∨ l = .sealing) : role = .seal := by
  obtain ⟨l', same, early⟩ := state
  cases same
  rcases role with _ | _
  · rcases late with rfl | rfl <;> simp at early
  · rfl

theorem pinState_seal (l : LiveState) : PinState .seal (.live l) := ⟨l, rfl, by simp⟩

/-- A SEAL pins an entry for its context, which stays live (R63, R82). -/
theorem takeSeal_cached {s : State} (laws : Cached s) (named : Named s.places) {i : Nat} {c : Context}
    (at_i : s.contextAt i = some c) (state : c.state = .live .authenticated) (record : SealRecord) :
    Cached (s.takeSeal i c record) := by
  have found := found_of_named named at_i
  have may : MayPin s.places c.handle .seal := (mayPin_iff ..).mpr ⟨i, c, found, state ▸ pinState_seal _⟩
  have pinned := laws.touchAndPin may (s.sealLookupHits c) c.issuer c.serial c.sealGeneration
  have sealing := pinned.updateContext (h := c.handle) (i := i) (c := c)
    (by simpa [State.resolveHandle] using found)
    (f := fun d => { d with state := .live .sealing, reserved := (s.sealOperations c).length })
    fun e _ _ before => role_eq_seal (state ▸ before) (.inl rfl) ▸ pinState_seal _
  exact sealing.of_same (by simp [State.takeSeal]) (by simp [State.takeSeal]) (by simp [State.takeSeal, updateContext_places])

theorem ownSeal_cached {s : State} (laws : Cached s) (named : Named s.places) (handle vehicleClass charge sequence) :
    Cached (ownSeal handle vehicleClass charge sequence s).1 := by
  unfold ownSeal
  split
  · exact laws
  split
  · exact laws
  rename_i i c found
  split
  · exact laws
  rename_i state
  split
  · exact laws
  split
  · exact laws
  split
  · exact laws.failContext named i _ _
  · exact takeSeal_cached laws named (State.resolveHandle_contextAt found) (not_not.mp state) _

theorem ownClose_cached {s : State} (laws : Cached s) (named : Named s.places) (handle) :
    Cached (ownClose handle s).1 := by
  unfold ownClose
  split
  · exact laws
  · rename_i i c found
    exact laws.freeContext named (State.resolveHandle_contextAt found)

/-- The lookups of a PREFETCH move entries only (R58). -/
theorem ownPrefetch_cached {s : State} (laws : Cached s) (issuer serial generation) :
    Cached (ownPrefetch issuer serial generation s).1 := by
  have looked (sealGeneration : Generation) : Cached (s.prefetchLookups issuer serial generation sealGeneration) :=
    (laws.touch ..).touch ..
  unfold ownPrefetch
  split
  · exact laws
  split
  · exact laws
  split
  · exact laws
  split
  · exact laws
  rename_i sealKey _
  have found := looked sealKey.2
  unfold State.prefetchResolved
  dsimp only
  split
  · exact found
  split
  · exact found
  · exact found.of_same (by simp) (by simp) (by simp)

/-- What a PURGE leaves of an entry (R66). -/
theorem purged_cases {issuer : Issuer} {base : Serial} {exponent : Nat} {e x : CacheEntry}
    (left : e.purged issuer base exponent = some x) :
    x = e ∨ (e.pin.isSome = true ∧ x = { e with doom := some .purged }) := by
  unfold CacheEntry.purged at left
  split at left
  · split at left <;> cases left
    exact .inr ⟨‹_›, rfl⟩
  · cases left
    exact .inl rfl

/-- A PURGE takes unpinned entries away and dooms pinned ones (R66). -/
theorem ownPurge_cached {s : State} (laws : Cached s) (issuer base exponent) :
    Cached (ownPurge issuer base exponent s).1 := by
  unfold ownPurge
  dsimp only
  split
  · exact laws
  refine Lawful.filterMap laws (fun e x left => ?_) fun e x _ left law => ?_
  · obtain rfl | ⟨-, rfl⟩ := purged_cases left
    · exact .refl _
    · exact ⟨rfl, rfl, rfl, rfl, by simp⟩
  · obtain rfl | ⟨pinned, rfl⟩ := purged_cases left
    · exact law
    · exact ⟨by simp, fun _ => pinned, law.pin⟩

theorem ownKeyWithdraw_cached {s : State} (laws : Cached s) (named : Named s.places) (issuer generation roles) :
    Cached (ownKeyWithdraw issuer generation roles s).1 := by
  unfold ownKeyWithdraw
  dsimp only
  split
  · exact laws
  split
  · exact laws
  split
  · exact laws
  · exact laws.withdraw named _

theorem ownRollback_cached {s : State} (laws : Cached s) (issuer) : Cached (ownRollback issuer s).1 := by
  unfold ownRollback
  split
  · exact laws
  split
  · exact laws
  · rename_i r _
    have undone : Cached (s.setSlots (r.undoSlots s.slots)) := Lawful.withSlots laws (keepsInstalls_undoSlots r s.slots)
    exact undone.of_same (by simp) (by simp) (by simp)

theorem ownLanes_cached {s : State} (laws : Cached s) (named : Named s.places) (setMask clearMask) :
    Cached (ownLanes setMask clearMask s).1 := by
  unfold ownLanes
  split
  · exact laws
  · have masked (mask : Byte) : Cached (s.setMask mask) := laws
    dsimp only
    refine (masked _).failEach ?_ _ _
    exact named

theorem ownServiceOff_cached {s : State} (laws : Cached s) (named : Named s.places) : Cached (ownServiceOff s).1 := by
  unfold ownServiceOff
  split
  · exact (Cached.failEach (s := s.setService .serviceOff) laws named s.liveIndices .serviceOff).of_same (by simp) (by simp)
      (by simp)
  · exact laws

/-- Every owner's event keeps the laws of the cache. -/
theorem own_cached {i : Instr} {own : State → State × Answer} (h : ownerOf i = some own) {s : State} (laws : Cached s)
    (work : s.workLawful) : Cached (own s).1 := by
  have named := named_of_workLawful work
  cases i <;> simp only [ownerOf, Option.some.injEq, reduceCtorEq] at h <;> subst h
  case openTag =>
    obtain ⟨size, -⟩ := work
    exact ownOpen_cached laws size ..
  case verify => exact ownVerify_cached laws named ..
  case sealTag => exact ownSeal_cached laws named ..
  case close => exact ownClose_cached laws named _
  case prefetch => exact ownPrefetch_cached laws ..
  case purge => exact ownPurge_cached laws ..
  case keyWithdraw => exact ownKeyWithdraw_cached laws named ..
  case rollback => exact ownRollback_cached laws _
  case lanes => exact ownLanes_cached laws named ..
  case serviceOff => exact ownServiceOff_cached laws named
  all_goals
    simp only [ownQuery, ownCollect, ownStageBegin, ownStageChunk, ownStageCommit, State.commit, ownStageAbandon, ownKeyRead,
      ownRollover, ownTime, ownServiceOn, ownConfig, ownSelftest]
    try (repeat' split)
    all_goals exact laws.of_same (by simp) (by simp) (by simp)

/-- Every request keeps the laws of the cache, a STAGE_CHUNK that is not well formed included (log 28). -/
theorem exec_request_cached {i : Instr} {own : State → State × Answer} (owned : ownerOf i = some own) {s t : State}
    (laws : Cached s) (work : s.workLawful) (h : exec i s = .next t) : Cached t := by
  by_cases wf : i.wellFormed = true
  · rw [exec_of_ownerOf owned wf, request] at h
    split at h
    · split at h <;> cases h
      · exact laws
      · exact own_cached owned laws work
    · cases h
      exact laws
  · cases i <;> simp only [Instr.wellFormed, ownerOf, reduceCtorEq, not_true_eq_false] at wf owned
    case stageChunk offset bytes =>
      have ill : (Instr.stageChunk offset bytes).wellFormed ≠ true := wf
      simp only [exec, execStageChunk, if_neg ill, event] at h
      split at h <;> cases h <;> exact laws

/-! ### The completion of an operation (R61, R119) -/

section
variable {s : State} (laws : Cached s) {h : Handle} {i : Nat} {c : Context} (found : s.resolveHandle h = some (i, c))
include laws found

/-- A derivation is inserted for a context that may hold the pin (R61). -/
theorem laneDerivation_cached {role : Role} (state : PinState role c.state) (generation : Generation) (slot : Nat)
    (epoch : Epoch) (masterKey : Option Key) :
    Cached (s.laneDerivation h (.derive role generation slot epoch) masterKey) := by
  have inserted := laws.insert (pin := some h) (fun k same => Option.some.inj same ▸ (mayPin_iff ..).mpr ⟨i, c, found, state⟩)
    c.issuer c.serial generation slot epoch masterKey
  simp only [State.laneDerivation, State.forOwner, found]
  exact inserted.updateContext (h := h) (c := c) (by simpa [State.resolveHandle] using found) fun _ _ _ state => state

theorem finishProof_cached : Cached (s.finishProof h) := by
  have waits := laws.updateContext found (f := fun c => { c.spend with state := .live .awaitTag })
    fun _ _ _ _ => ⟨.awaitTag, rfl, by simp⟩
  simp only [State.finishProof, State.forOwner, found]
  exact waits.of_same (by simp) (by simp) (by simp)

/-- A match releases the AUTH pin; a difference fails the context (R81). -/
theorem finishTagProof_cached (named : Named s.places) (proof : Half) : Cached (s.finishTagProof h proof) := by
  simp only [State.finishTagProof, State.forOwner, found]
  split
  · have authenticated := (laws.releasePin h .auth).updateContext (h := h) (i := i) (c := c)
      (by simpa [State.resolveHandle] using found) (f := fun c => { c.spend with state := .live .authenticated })
      fun e he pinned _ => by
        have notAuth := unpinned_released s.cache h .auth e he
        cases role : e.role
        · simp [CacheEntry.isPinnedBy, pinned, role] at notAuth
        · exact pinState_seal _
    exact authenticated.of_same (by simp [State.releasePin]) (by simp) (by simp [updateContext_places])
  · exact laws.failContext named i _ _

theorem finishSealFirst_cached : Cached (s.finishSealFirst h) := by
  simp only [State.finishSealFirst, State.forOwner, found]
  exact laws.updateContext found fun _ _ _ state => state

/-- A SEALED context has no pin: it released its SEAL pin, and no AUTH pin was left (R63, R83). -/
theorem finishSeal_cached (sealing : c.state = .live .sealing) (record : SealRecord) (first : Option Block) :
    Cached (s.finishSeal h record first) := by
  simp only [State.finishSeal, State.forOwner, found]
  generalize sealOf (pinnedKey s.cache h .seal) (first.getD 0) record = result
  have sealed := (laws.releasePin h .seal).updateContext (h := h) (i := i) (c := c)
    (by simpa [State.resolveHandle] using found) (f := fun c => { c with state := .sealed record.stamp result, reserved := 0 })
    fun e he pinned before => by
      have notSeal := unpinned_released s.cache h .seal e he
      have isSeal : e.role = .seal := role_eq_seal (sealing ▸ before) (.inr rfl)
      simp [CacheEntry.isPinnedBy, pinned, isSeal] at notSeal
  exact sealed.of_same (by simp [State.releasePin]) (by simp) (by simp [updateContext_places])

end

/-- What a completed operation of a job hands over keeps the laws (R119). -/
theorem handOver_cached {s : State} (laws : Cached s) (named : Named s.places) {j : Job} (suits : j.suits)
    (served : ∀ h, j.work.owner = some h →
      ∃ i c l, s.resolveHandle h = some (i, c) ∧ j.work.serves = some l ∧ c.state = .live l)
    {op : Operation} {rest : List Operation} (operations : j.operations = op :: rest) (masterKey : Option Key) :
    Cached (s.handOver j.work op masterKey) := by
  unfold Job.suits at suits
  rw [operations] at suits
  cases work : j.work with
  | opening h issuer serial nonce challenge =>
    rw [work] at suits served
    obtain ⟨i, c, l, found, serves, state⟩ := served h rfl
    obtain rfl : LiveState.opening = l := Option.some.inj serves
    rcases suits with ⟨g, slot, e, same⟩ | same <;> cases same
    · exact laneDerivation_cached laws found ⟨_, state, fun _ => .inl rfl⟩ g slot e masterKey
    · exact finishProof_cached laws found
  | verifying h proof =>
    rw [work] at served
    obtain ⟨i, c, l, found, -, -⟩ := served h rfl
    exact finishTagProof_cached laws found named proof
  | sealing h record first =>
    rw [work] at suits served
    obtain ⟨i, c, l, found, serves, state⟩ := served h rfl
    obtain rfl : LiveState.sealing = l := Option.some.inj serves
    rcases suits with ⟨g, slot, e, same⟩ | same | same <;> cases same
    · exact laneDerivation_cached laws found (state ▸ pinState_seal _) g slot e masterKey
    · exact finishSealFirst_cached laws found
    · exact finishSeal_cached laws found state record first
  | keyset l keys results => exact laws
  | prefetch issuer serial =>
    simp only [State.handOver, State.prefetchDerivation]
    split
    · exact laws.insert (by simp) ..
    · exact laws

/-- The end of a keyset job installs keys into EMPTY slots or leaves the slots (R31 to R34). -/
theorem endKeyset_cached {s : State} (laws : Cached s) (work : Work) : Cached (s.endKeyset work) := by
  cases work with
  | keyset l keys results =>
    simp only [State.endKeyset, State.completeCommit]
    split
    · exact laws.of_same (by simp) (by simp) (by simp)
    split
    · have installed : Cached (s.setSlots (installEach s.slots (l.records.zip keys)).1) :=
        Lawful.withSlots laws (keepsInstalls_installEach s.slots _)
      exact installed.of_same (by simp) (by simp) (by simp)
    · exact laws.of_same (by simp) (by simp) (by simp)
  | opening | verifying | sealing | prefetch => exact laws

theorem operationComplete_cached {s : State} (laws : Cached s) (work : s.workLawful) (name : UnitName) :
    Cached (State.operationComplete name s) := by
  have named := named_of_workLawful work
  obtain ⟨-, -, served, -, -, -, suits⟩ := work
  have freed : Cached (s.freeUnit name).arbitrate := laws.of_same (by simp) (by simp) (by simp)
  unfold State.operationComplete
  split
  · rename_i masterKey _
    split
    · exact freed
    rename_i j found
    have mem := List.mem_of_find?_eq_some found
    split
    · exact freed
    · rename_i op operations
      have handed := handOver_cached (s := s.endJob j.sequence) laws named (suits j mem) (served j mem) operations
        masterKey
      exact (endKeyset_cached handed (s.workAfter j.work op)).of_same (by simp [State.lastOperation, State.endJob])
        (by simp [State.lastOperation, State.endJob]) (by simp [State.lastOperation, State.endJob])
    · rename_i op next rest operations
      have handed := handOver_cached laws named (suits j mem) (served j mem) operations masterKey
      unfold State.middleOperation
      dsimp only
      split <;> exact handed.of_same (by simp) (by simp) (by simp)
  · exact laws
  · exact laws

/-! ### The other events -/

theorem applyPhase_cached {s : State} (laws : Cached s) (named : Named s.places) (r : Rollover) : Cached (s.applyPhase r) := by
  unfold State.applyPhase
  dsimp only
  split
  · have advanced : Cached (s.setSlots (r.advanceSlots s.slots)) :=
      Lawful.withSlots laws (keepsInstalls_advanceSlots r s.slots)
    exact advanced.of_same (by simp) (by simp) (by simp)
  · have retired := Cached.withdraw (s := s.setRollovers (removeRollover s.rollovers r.issuer)) laws named (r.retiring s.slots)
    exact retired.of_same (by simp) (by simp) (by simp)

theorem replySent_cached {s : State} (laws : Cached s) : Cached s.replySent := by
  unfold State.replySent
  split
  · exact .of_empty rfl
  split
  · exact laws
  · exact laws
  · exact laws

theorem event_cached {effect : State → State} {s t : State} (laws : Cached s) (effect_cached : Cached (effect s))
    (h : event effect s = .next t) : Cached t := by
  unfold event at h
  split at h <;> cases h
  · exact effect_cached
  · exact laws

/-- Every command that is no request keeps the laws of the cache. -/
theorem exec_event_cached {i : Instr} (unowned : ownerOf i = none) {s t : State} (laws : Cached s) (work : s.workLawful)
    (h : exec i s = .next t) : Cached t := by
  have named := named_of_workLawful work
  cases i <;> simp only [ownerOf, reduceCtorEq] at unowned
  case frameReceived last =>
    refine event_cached laws ?_ h
    split <;> exact laws
  case frameGapTimeout => exact event_cached (effect := fun s => s.setLink s.link.abandon) laws laws h
  case byteReceived byte => exact event_cached (effect := fun s => s.setLink (s.link.receive s.report byte)) laws laws h
  case replyComplete => exact event_cached laws (replySent_cached laws) h
  case laneTimeTick => exact event_cached (effect := fun s => s.setClock s.clock.tick) laws laws h
  case deadlineEvent index =>
    refine event_cached laws ?_ h
    unfold State.deadlineEvent
    split
    · split
      · exact laws.failContext named _ _ _
      · exact laws
    · exact laws
  case lingerEnd index =>
    refine event_cached laws ?_ h
    unfold State.lingerEnd
    split
    · split
      · exact laws.freeContext named ‹_›
      · exact laws
    · exact laws
  case windowEnd =>
    refine event_cached (effect := fun s => if s.endedSlots = [] then s else s.withdraw s.endedSlots) laws ?_ h
    split
    · exact laws
    · exact laws.withdraw named _
  case phaseDue issuer =>
    refine event_cached laws ?_ h
    unfold State.phaseDue
    split
    · split
      · exact applyPhase_cached laws named _
      · exact laws
    · exact laws
  case prefetchExpiry sequence => exact event_cached (effect := fun s => s.cancelJobs (s.expires sequence)) laws laws h
  case thermalReading celsius => exact event_cached laws (laws.of_same (by simp) (by simp) (by simp)) h
  case operationComplete unit => exact event_cached laws (operationComplete_cached laws work unit) h
  case selftestEnd fault0 fault1 => exact event_cached laws (laws.of_same (by simp) (by simp) (by simp)) h
  case powerOn =>
    cases h
    split
    · exact .of_empty rfl
    · exact laws
  case supplyLoss =>
    cases h
    exact .of_empty rfl
  case resetNLow =>
    cases h
    split
    · exact laws
    · exact .of_empty rfl
  case resetEnd rate1 rate0 =>
    cases h
    split
    · unfold State.endReset
      dsimp only
      split <;> exact .of_empty rfl
    · exact laws
  case zeroize =>
    cases h
    split
    · exact laws
    · exact .of_empty rfl
  case provisioning key =>
    cases h
    exact laws

/-- Every command keeps the laws of the cache. -/
theorem exec_cached {i : Instr} {s t : State} (laws : Cached s) (work : s.workLawful) (h : exec i s = .next t) : Cached t := by
  cases owned : ownerOf i with
  | none => exact exec_event_cached owned laws work h
  | some own => exact exec_request_cached owned laws work h

/-- Settles O55: each command composes a few operations on the cache, the slots and the table, and each of them keeps the laws
of every entry (`Lawful`). -/
theorem cacheLawsAreKept : Obligations.CacheLawsAreKept := by
  intro s t lawful work h
  have laws : Cached s := (cacheLawful_iff s).mp lawful
  refine (cacheLawful_iff t).mpr ?_
  rcases step_cases s with ⟨-, idle⟩ | ⟨i, rest, -, runs⟩
  · cases idle.symm.trans h
    exact laws
  · exact exec_cached (s := s.setPending rest) laws work (runs.symm.trans h)

end Sys2Proof.Machine.CacheLaws

/-! Transactions (R74 to R88, R98 to R106): what each request of the Transaction Table answers and leaves, and that a context
fails and is freed with one set of effects. -/

namespace Sys2Proof.Machine.Transactions

open Loading (exec_taken exec_outcome issuerValid_iff)
open Scheduling (issuerValid_eq_false_iff findSlot_of_holds)
open CacheLaws (releasedBoth)

/-! ### Failing and freeing (R64, R84, R86) -/

/-- Both releases of a context's pins together (R64). -/
theorem releasedBoth_eq_pinsReleased (cache : List CacheEntry) (h : Handle) :
    releasedBoth cache h = pinsReleased [h] cache := by
  rw [releasedBoth, List.filterMap_filterMap, pinsReleased]
  refine congrArg (List.filterMap · cache) (funext fun e => ?_)
  cases pin : e.pin with
  | none => simp [CacheEntry.released, CacheEntry.isPinnedBy, pin]
  | some k =>
    by_cases own : k = h
    · cases role : e.role <;> cases doom : e.doom <;>
        simp [CacheEntry.released, CacheEntry.isPinnedBy, pin, own, role, doom]
    · simp [CacheEntry.released, CacheEntry.isPinnedBy, pin, own]

theorem releasePins_cache (s : State) (h : Handle) :
    ((s.releasePin h .auth).releasePin h .seal).cache = pinsReleased [h] s.cache :=
  releasedBoth_eq_pinsReleased s.cache h

theorem cancelJobOf_jobs (s : State) (h : Handle) : (s.cancelJobOf h).jobs = jobsWithout [h] s.jobs := by
  simp [State.cancelJobOf, State.cancelJobs, jobsWithout]

/-- A change of the context at an index writes that context (R73). -/
theorem modify_context_eq {places : List Place} {n u : Nat} {c : Context} (at_n : places[n]? = some ⟨u, some c⟩)
    (f : Context → Context) :
    (places.modify n fun p => { p with context := p.context.map f }) =
      places.modify n fun p => { p with context := some (f c) } := by
  refine List.ext_getElem? fun m => ?_
  simp only [List.getElem?_modify]
  by_cases same : n = m
  · subst same
    simp [at_n]
  · simp [same]

/-- R84: the failure of a live context. -/
theorem failContext_eq_failed {s : State} {n : Nat} {c : Context} {l : LiveState} (reason : FailReason) (posted : Bool)
    (at_n : s.contextAt n = some c) (live : c.state = .live l) :
    s.failContext n reason posted = s.failed n c l reason posted := by
  obtain ⟨u, at_n'⟩ := State.contextAt_eq_some.mp at_n
  have places := modify_context_eq at_n' fun c => { c with state := .failed reason l, reserved := 0 }
  have unposted : ((((s.updateContext n fun c => { c with state := .failed reason l, reserved := 0 }).cancelJobOf
      c.handle).releasePin c.handle .auth).releasePin c.handle .seal) = s.failed n c l reason false := by
    apply State.eq_of_fields
    case cache => exact releasePins_cache s c.handle
    case jobs => exact cancelJobOf_jobs s c.handle
    case places => exact places
    all_goals rfl
  rw [State.failContext_of_live reason posted at_n live]
  simp only [unposted]
  cases posted with
  | false => rfl
  | true =>
    by_cases zeroized : s.service = .zeroized <;> simp [State.post, State.failed, State.setQueue, zeroized]

/-- A context that is not live does not fail again (R84). -/
theorem failContext_of_dead {s : State} {n : Nat} (reason : FailReason) (posted : Bool)
    (dead : ∀ c l, s.contextAt n = some c → c.state ≠ .live l) : s.failContext n reason posted = s := by
  refine State.failContext_of_not_live reason posted fun c at_n => ?_
  cases state : c.state with
  | live l => exact absurd state (dead c l at_n)
  | sealed | failed => simp [Context.isLive, state]

/-- R86, R88: the freeing of a context. -/
theorem freeContext_eq_freed (s : State) (n : Nat) (c : Context) : s.freeContext n c = s.freed n c := by
  apply State.eq_of_fields
  case cache => exact releasePins_cache s c.handle
  case jobs => exact cancelJobOf_jobs s c.handle
  all_goals rfl

variable {s : State} {h : Handle} {n : Nat} {c : Context}

/-! ### Handles (R74) -/

theorem takes_of_inService (i : Instr) (on : s.inService) : s.takes i := ⟨on.1, .inr (.inl on.2)⟩

theorem resolveHandle_eq_none (unknown : ¬ ∃ c, h.toNat % 64 < 48 ∧ s.places[h.toNat % 64]? = some ⟨h.toNat / 64, some c⟩) :
    s.resolveHandle h = none := by
  refine Option.eq_none_iff_forall_ne_some.mpr fun ⟨i, c⟩ found => unknown ⟨c, ?_⟩
  obtain ⟨rfl, lt, at_i⟩ := State.resolveHandle_eq_some.mp found
  exact ⟨lt, at_i⟩

theorem ownClose_unknown (unknown : s.resolveHandle h = none) : ownClose h s = (s, .refuse (.unknownHandle h)) := by
  simp [ownClose, unknown]

theorem ownQuery_unknown (unknown : s.resolveHandle h = none) : ownQuery h s = (s, .refuse (.unknownHandle h)) := by
  simp [ownQuery, unknown]

theorem ownVerify_unknown (on : s.service = .serviceOn) (unknown : s.resolveHandle h = none) (proof : Half) :
    ownVerify h proof s = (s, .refuse (.unknownHandle h)) := by
  simp [ownVerify, on, unknown]

theorem ownSeal_unknown (on : s.service = .serviceOn) (unknown : s.resolveHandle h = none) (vehicleClass : Byte)
    (charge : BitVec 32) (sequence : BitVec 16) :
    ownSeal h vehicleClass charge sequence s = (s, .refuse (.unknownHandle h)) := by
  simp [ownSeal, on, unknown]

/-- Settles O12: the handle resolves to no context, which each of the four requests reads first. -/
theorem unknownHandlesAreRefused : Obligations.UnknownHandlesAreRefused := by
  intro s h missing
  have unknown := resolveHandle_eq_none missing
  refine ⟨fun taken => exec_outcome rfl rfl taken (ownClose_unknown unknown),
    fun taken => exec_outcome rfl rfl taken (ownQuery_unknown unknown), fun on proof vehicleClass charge sequence => ⟨?_, ?_⟩⟩
  · exact exec_outcome rfl rfl (takes_of_inService _ on) (ownVerify_unknown on.2 unknown proof)
  · exact exec_outcome rfl rfl (takes_of_inService _ on) (ownSeal_unknown on.2 unknown vehicleClass charge sequence)

/-! ### QUERY and CLOSE (R86, R87) -/

theorem jobStatusOf_none {jobs : List Job} (idle : ∀ j ∈ jobs, j.work.owner ≠ some h) : jobStatusOf jobs h = .none := by
  have gone : jobOf jobs h = none := List.find?_eq_none.mpr fun j mem => by simpa using idle j mem
  simp [jobStatusOf, gone]

theorem jobStatusOf_some {jobs : List Job} {j : Job} (found : jobs.find? (fun j => decide (j.work.owner = some h)) = some j) :
    jobStatusOf jobs h = if j.running = true then .running else .waiting := by
  simp [jobStatusOf, jobOf, found]

theorem ownQuery_found (found : s.resolveHandle h = some (n, c)) :
    ownQuery h s = (s, .context c (jobStatusOf s.jobs c.handle)) := by
  simp [ownQuery, found]

/-- Settles O21, by the job of the context on the Work Queue. -/
theorem queryReadsTheContext : Obligations.QueryReadsTheContext := by
  intro s h taken
  refine ⟨fun unknown => exec_outcome rfl rfl taken (ownQuery_unknown unknown), fun n c found =>
    ⟨fun idle => ?_, fun j job => ?_⟩⟩
  · exact jobStatusOf_none idle ▸ exec_outcome rfl rfl taken (ownQuery_found found)
  · exact jobStatusOf_some job ▸ exec_outcome rfl rfl taken (ownQuery_found found)

theorem ownClose_found (found : s.resolveHandle h = some (n, c)) :
    ownClose h s = (s.freed n c,
      .closed c.state c.authTaint c.sealTaint (s.jobs.any fun j => decide (j.work.owner = some c.handle))) := by
  have cancelled : (jobOf s.jobs c.handle).isSome = s.jobs.any fun j => decide (j.work.owner = some c.handle) :=
    Bool.eq_iff_iff.mpr (by simp [jobOf, List.find?_isSome])
  simp [ownClose, found, freeContext_eq_freed, cancelled]

/-! ### Due times (R88, R141) -/

theorem due_of_le {now time : Nat} (set : s.clock.time = some now) (reached : time ≤ now) : s.due time = true := by
  simp [State.due, set, reached]

theorem not_due_of_lt {time : Nat} (early : ∀ now, s.clock.time = some now → now < time) : s.due time = false := by
  cases set : s.clock.time with
  | none => simp [State.due, set]
  | some now => simpa [State.due, set] using early now set

theorem exec_lingerEnd (running : s.power = .running) (at_n : s.contextAt n = some c) :
    exec (.lingerEnd n) s = .next (if s.due (c.deadline + 2000) = true then s.freed n c else s) := by
  simp only [exec, execLingerEnd, event_running running, State.lingerEnd, at_n, freeContext_eq_freed]

theorem exec_deadlineEvent (running : s.power = .running) (at_n : s.contextAt n = some c) :
    exec (.deadlineEvent n) s = .next (if s.due c.deadline = true then s.failContext n .expired true else s) := by
  simp only [exec, execDeadlineEvent, event_running running, State.deadlineEvent, at_n]

/-- Settles O20: both events free the context in the one way. -/
theorem closeAndLingerEndFree : Obligations.CloseAndLingerEndFree := by
  intro s n c
  refine ⟨fun h taken found => exec_outcome rfl rfl taken (ownClose_found found), fun running at_n =>
    ⟨fun now set reached => ?_, fun early => ?_⟩⟩
  · rw [exec_lingerEnd running at_n, if_pos (due_of_le set reached)]
  · rw [exec_lingerEnd running at_n, not_due_of_lt early]
    rfl

/-- Settles O22: the context fails when it is live, and is left alone when it is not. -/
theorem deadlineExpiresLiveContexts : Obligations.DeadlineExpiresLiveContexts := by
  intro s n c running at_n
  refine ⟨fun now set reached => ?_, fun early => ?_⟩
  · rw [exec_deadlineEvent running at_n, if_pos (due_of_le set reached)]
    refine ⟨fun l live => ?_, fun dead => ?_⟩
    · rw [failContext_eq_failed .expired true at_n live]
    · rw [failContext_of_dead .expired true fun d l at_n' => Option.some.inj (at_n.symm.trans at_n') ▸ dead l]
  · rw [exec_deadlineEvent running at_n, not_due_of_lt early]
    rfl

/-! ### VERIFY and SEAL (R80, R82) -/

/-- A change of the context that a handle finds writes its index (R74). -/
theorem updateContext_of_found (found : s.resolveHandle h = some (n, c)) (f : Context → Context) :
    s.updateContext n f = s.setPlaces (s.places.set n ⟨h.toNat / 64, some (f c)⟩) := by
  obtain ⟨-, -, at_n⟩ := State.resolveHandle_eq_some.mp found
  refine congrArg s.setPlaces (List.ext_getElem? fun m => ?_)
  obtain ⟨inside, place⟩ := List.getElem?_eq_some_iff.mp at_n
  rw [List.getElem?_modify, List.getElem?_set]
  by_cases same : n = m
  · subst same
    simp [inside, place]
  · simp [same]

section
variable (on : s.service = .serviceOn) (found : s.resolveHandle h = some (n, c))
include on found

theorem ownVerify_otherState (proof : Half) (other : c.state ≠ .live .awaitTag) :
    ownVerify h proof s = (s, .refuse (stateRefusal c.state)) := by
  simp [ownVerify, on, found, other]

theorem ownVerify_tainted (proof : Half) (state : c.state = .live .awaitTag) (taint : c.authTaint = true) :
    ownVerify h proof s = (s.failed n c .awaitTag .keyWithdrawn false, .refuse (.keyWithdrawn .auth)) := by
  have fails := failContext_eq_failed .keyWithdrawn false (State.resolveHandle_contextAt found) state
  simp [ownVerify, on, found, state, taint, fails]

theorem ownVerify_taken (proof : Half) (state : c.state = .live .awaitTag) (taint : c.authTaint = false) :
    ownVerify h proof s = (((s.setPlaces (s.places.set n ⟨h.toNat / 64, some { c with state := .live .verifying }⟩)).place
      (.verifying c.handle proof) [.tagProof] c.deadline).arbitrate, .verifying c.handle c.deadline) := by
  have update := updateContext_of_found found fun c => { c with state := .live .verifying }
  simp [ownVerify, on, found, state, taint, update]

theorem ownSeal_otherState (vehicleClass : Byte) (charge : BitVec 32) (sequence : BitVec 16)
    (other : c.state ≠ .live .authenticated) :
    ownSeal h vehicleClass charge sequence s = (s, .refuse (stateRefusal c.state)) := by
  simp [ownSeal, on, found, other]

variable (state : c.state = .live .authenticated) {vehicleClass : Byte}
include state

theorem ownSeal_badClass (charge : BitVec 32) (sequence : BitVec 16)
    (bad : vehicleClass.toNat = 0 ∨ 15 < vehicleClass.toNat) :
    ownSeal h vehicleClass charge sequence s = (s, .refuse (.badField 2 0)) := by
  have outside : vehicleClass.toNat < 1 ∨ 15 < vehicleClass.toNat := by omega
  simp only [ownSeal, on, found, state, ne_eq, not_true_eq_false, if_false, if_pos outside]

variable (least : 1 ≤ vehicleClass.toNat) (most : vehicleClass.toNat ≤ 15) {charge : BitVec 32}
include least most

theorem ownSeal_badCharge (sequence : BitVec 16) (bad : 9999999 < charge.toNat) :
    ownSeal h vehicleClass charge sequence s = (s, .refuse (.badField 3 0)) := by
  have inside : ¬ (vehicleClass.toNat < 1 ∨ 15 < vehicleClass.toNat) := by omega
  simp only [ownSeal, on, found, state, ne_eq, not_true_eq_false, if_false, if_neg inside, if_pos bad]

theorem ownSeal_tainted (sequence : BitVec 16) (good : charge.toNat ≤ 9999999) (taint : c.sealTaint = true) :
    ownSeal h vehicleClass charge sequence s =
      (s.failed n c .authenticated .keyWithdrawn false, .refuse (.keyWithdrawn .seal)) := by
  have inside : ¬ (vehicleClass.toNat < 1 ∨ 15 < vehicleClass.toNat) := by omega
  have fails := failContext_eq_failed .keyWithdrawn false (State.resolveHandle_contextAt found) state
  simp only [ownSeal, on, found, state, ne_eq, not_true_eq_false, if_false, if_neg inside, if_neg good.not_gt, if_pos taint,
    fails]

theorem ownSeal_taken (sequence : BitVec 16) (good : charge.toNat ≤ 9999999) (taint : c.sealTaint = false) :
    ownSeal h vehicleClass charge sequence s = (s.takeSeal n c (s.sealRecord c vehicleClass charge sequence),
      .sealing c.handle s.nowMs (s.sealOperations c).length) := by
  have inside : ¬ (vehicleClass.toNat < 1 ∨ 15 < vehicleClass.toNat) := by omega
  simp only [ownSeal, on, found, state, ne_eq, not_true_eq_false, if_false, if_neg inside, if_neg good.not_gt, taint,
    Bool.false_eq_true]

end

/-- Settles O17, by the state of the context and its AUTH taint flag. -/
theorem verifyOutcomes : Obligations.VerifyOutcomes := by
  intro s h proof
  refine ⟨fun taken off => exec_outcome rfl rfl taken (by simp [ownVerify, off]), fun ⟨running, on⟩ n c found => ?_⟩
  have taken := takes_of_inService (.verify h proof) ⟨running, on⟩
  have other {state : ContextState} (is : c.state = state) (ne : state ≠ .live .awaitTag) :
      Refuses (.verify h proof) s (stateRefusal state) :=
    exec_outcome rfl rfl taken (is ▸ ownVerify_otherState on found proof (is ▸ ne))
  refine ⟨fun reason l failed => other failed nofun, fun l live ne => other live (by simpa using ne),
    fun stamp x sealed => other sealed nofun, fun state taint => ?_, fun state taint => ?_⟩
  · exact exec_outcome rfl rfl taken (ownVerify_tainted on found proof state taint)
  · exact exec_outcome rfl rfl taken (ownVerify_taken on found proof state taint)

/-- The event that takes a SEAL, after the lookup's effect on the cache (R60, R82). -/
theorem takeSeal_eq (found : s.resolveHandle h = some (n, c)) (record : SealRecord) :
    s.takeSeal n c record =
      ((((s.touchAndPin (s.sealLookupHits c) c.handle c.issuer c.serial c.sealGeneration .seal).setPlaces
        (s.places.set n ⟨h.toNat / 64,
          some { c with state := .live .sealing, reserved := (s.sealOperations c).length }⟩)).place
        (.sealing c.handle record none) (s.sealOperations c) c.deadline).arbitrate) := by
  have update := updateContext_of_found (s := s.touchAndPin (s.sealLookupHits c) c.handle c.issuer c.serial
    c.sealGeneration .seal) (h := h) (n := n) (c := c) (by simpa [State.resolveHandle] using found)
    fun d => { d with state := .live .sealing, reserved := (s.sealOperations c).length }
  simp only [State.touchAndPin_keeps] at update
  rw [State.takeSeal, update]

theorem holdsSealPin_iff : s.holdsSealPin c = true ↔ ∃ e ∈ s.cache, e.pin = some c.handle ∧ e.role = .seal := by
  simp [State.holdsSealPin, CacheEntry.isPinnedBy]

theorem sealLookup_of_pin (held : s.holdsSealPin c = true) :
    s.sealLookupHits c = false ∧ s.sealOperations c = [.sealFirst, .sealSecond] := by
  simp [State.sealLookupHits, State.sealOperations, held]

theorem sealLookup_of_hit (none : s.holdsSealPin c = false)
    (hit : cacheHit s.cache c.issuer c.serial c.sealGeneration .seal = true) :
    s.sealLookupHits c = true ∧ s.sealOperations c = [.sealFirst, .sealSecond] := by
  simp [State.sealLookupHits, State.sealOperations, none, hit]

theorem sealLookup_of_miss (none : s.holdsSealPin c = false)
    (miss : cacheHit s.cache c.issuer c.serial c.sealGeneration .seal = false) :
    s.sealLookupHits c = false ∧ s.sealOperations c =
      [.derive .seal c.sealGeneration c.sealKey.slot c.sealKey.epoch, .sealFirst, .sealSecond] := by
  simp [State.sealLookupHits, State.sealOperations, none, miss]

/-- Settles O18, by the checks in their order and the three cases of the SEAL lookup. -/
theorem sealOutcomes : Obligations.SealOutcomes := by
  intro s h vehicleClass charge sequence i
  refine ⟨fun taken off => exec_outcome rfl rfl taken (by simp [ownSeal, off]), fun ⟨running, on⟩ n c found => ?_⟩
  have taken := takes_of_inService i ⟨running, on⟩
  have other {state : ContextState} (is : c.state = state) (ne : state ≠ .live .authenticated) :
      Refuses i s (stateRefusal state) :=
    exec_outcome rfl rfl taken (is ▸ ownSeal_otherState on found vehicleClass charge sequence (is ▸ ne))
  refine ⟨fun reason l failed => other failed nofun, fun l live ne => other live (by simpa using ne),
    fun stamp x sealed => other sealed nofun, fun state => ⟨fun bad => ?_, fun least most => ⟨fun bad => ?_, fun good =>
      ⟨fun taint => ?_, fun taint => ?_⟩⟩⟩⟩
  · exact exec_outcome rfl rfl taken (ownSeal_badClass on found state charge sequence bad)
  · exact exec_outcome rfl rfl taken (ownSeal_badCharge on found state least most sequence bad)
  · exact exec_outcome rfl rfl taken (ownSeal_tainted on found state least most sequence good taint)
  intro record pin hit taken'
  have outcome := exec_outcome (i := i) rfl rfl taken (ownSeal_taken on found state least most sequence good taint)
  rw [takeSeal_eq found] at outcome
  have noPin (none : ¬ pin) : s.holdsSealPin c = false := Bool.eq_false_iff.mpr (holdsSealPin_iff.not.mpr none)
  refine ⟨fun held => ?_, fun none isHit => ?_, fun none miss => ?_⟩
  · obtain ⟨lookup, operations⟩ := sealLookup_of_pin (holdsSealPin_iff.mpr held)
    rw [lookup, operations] at outcome
    exact outcome
  · obtain ⟨lookup, operations⟩ := sealLookup_of_hit (noPin none) isHit
    rw [lookup, operations] at outcome
    exact outcome
  · obtain ⟨lookup, operations⟩ := sealLookup_of_miss (noPin none) miss
    rw [lookup, operations] at outcome
    exact outcome

/-! ### The checks of an OPEN (R76) -/

theorem mem_contexts {c : Context} : c ∈ s.contexts ↔ ∃ n, s.contextAt n = some c := by
  rw [State.contexts, List.mem_filterMap]
  simp only [List.mem_iff_getElem?, State.contextAt, Option.bind_eq_some_iff]
  exact ⟨fun ⟨p, ⟨n, at_n⟩, held⟩ => ⟨n, p, at_n, held⟩, fun ⟨n, p, at_n, held⟩ => ⟨p, ⟨n, at_n⟩, held⟩⟩

/-- A context that blocks no tag is FAILED or has another tag (R77). -/
theorem blockingContext_eq_none_iff {issuer : Issuer} {serial : Serial} :
    s.blockingContext issuer serial = none ↔
      ∀ n c, s.contextAt n = some c → c.issuer = issuer → c.serial = serial → c.isFailed = true := by
  simp only [State.blockingContext, List.find?_eq_none, mem_contexts]
  grind

section
variable {s : State} {lane : Byte} {issuer : Issuer} {serial : Serial} {generation : Generation} {dwell : Nat}

/-- Checks 1 to 5 are passed. -/
structure Entered (s : State) (lane : Byte) (issuer : Issuer) : Prop where
  on : s.service = .serviceOn
  good : lane.toNat ≤ 7
  enabled : s.mask.getLsbD lane.toNat = true
  valid : issuerValid issuer = true
  units : s.unitsServing ≠ 0

theorem checkOpen_off (off : s.service ≠ .serviceOn) :
    s.checkOpen lane issuer serial generation dwell = .error .notInService := by
  simp [State.checkOpen, off]

theorem checkOpen_badLane (on : s.service = .serviceOn) (bad : 7 < lane.toNat) :
    s.checkOpen lane issuer serial generation dwell = .error (.badField 0 0) := by
  simp [State.checkOpen, on, bad]

theorem checkOpen_laneOff (on : s.service = .serviceOn) (good : lane.toNat ≤ 7) (off : s.mask.getLsbD lane.toNat = false) :
    s.checkOpen lane issuer serial generation dwell = .error .laneOff := by
  simp [State.checkOpen, on, good.not_gt, laneEnabled, off]

theorem checkOpen_badIssuer (on : s.service = .serviceOn) (good : lane.toNat ≤ 7)
    (enabled : s.mask.getLsbD lane.toNat = true) (bad : issuerValid issuer = false) :
    s.checkOpen lane issuer serial generation dwell = .error (.badField 1 0) := by
  simp [State.checkOpen, on, good.not_gt, laneEnabled, enabled, bad]

theorem checkOpen_thermal (on : s.service = .serviceOn) (good : lane.toNat ≤ 7)
    (enabled : s.mask.getLsbD lane.toNat = true) (valid : issuerValid issuer = true) (idle : s.unitsServing = 0) :
    s.checkOpen lane issuer serial generation dwell = .error .thermal := by
  simp [State.checkOpen, on, good.not_gt, laneEnabled, enabled, valid, idle]

variable (entered : Entered s lane issuer)
include entered

theorem checkOpen_duplicate {c : Context} (blocks : s.blockingContext issuer serial = some c) :
    s.checkOpen lane issuer serial generation dwell = .error (.duplicateTag c.handle c.lane) := by
  obtain ⟨on, good, enabled, valid, units⟩ := entered
  simp [State.checkOpen, on, good.not_gt, laneEnabled, enabled, valid, units, blocks]

variable (unblocked : s.blockingContext issuer serial = none)
include unblocked

theorem checkOpen_authRefused {r : Refuse} (refused : resolveAuth s.slots issuer generation s.nowSeconds = .error r) :
    s.checkOpen lane issuer serial generation dwell = .error r := by
  obtain ⟨on, good, enabled, valid, units⟩ := entered
  simp [State.checkOpen, on, good.not_gt, laneEnabled, enabled, valid, units, unblocked, refused]

variable {auth : Binding} (hauth : resolveAuth s.slots issuer generation s.nowSeconds = .ok auth)
include hauth

theorem checkOpen_sealRefused {r : Refuse} (refused : resolveSeal s.slots issuer generation s.nowSeconds = .error r) :
    s.checkOpen lane issuer serial generation dwell = .error r := by
  obtain ⟨on, good, enabled, valid, units⟩ := entered
  simp [State.checkOpen, on, good.not_gt, laneEnabled, enabled, valid, units, unblocked, hauth, refused]

variable {sealKey : Binding × Generation} (hseal : resolveSeal s.slots issuer generation s.nowSeconds = .ok sealKey)
include hseal

/-- Checks 1 to 8 are passed: the checks of admission decide. -/
theorem checkOpen_resolved :
    s.checkOpen lane issuer serial generation dwell = s.admission lane issuer serial generation dwell auth sealKey := by
  obtain ⟨on, good, enabled, valid, units⟩ := entered
  simp [State.checkOpen, on, good.not_gt, laneEnabled, enabled, valid, units, unblocked, hauth, hseal]

end

/-! Checks 9 to 12. -/

section
variable {s : State} {lane : Byte} {issuer : Issuer} {serial : Serial} {generation : Generation} {dwell : Nat}
  {auth : Binding} {sealKey : Binding × Generation}

/-- The estimate of an OPEN whose slots have resolved (R101, R105). -/
def estimateFor (s : State) (issuer : Issuer) (serial : Serial) (generation sealGeneration : Generation) (dwell : Nat) :
    Nat :=
  s.openEstimate dwell (openCost (cacheHit s.cache issuer serial generation .auth)
    (cacheHit s.cache issuer serial sealGeneration .seal))

theorem admission_tableFull (full : s.freeIndex = none) :
    s.admission lane issuer serial generation dwell auth sealKey = .error .tableFull := by
  simp [State.admission, full]

variable {index : Nat} (free : s.freeIndex = some index)
include free

theorem admission_laneFull (full : s.settings.quota ≤ s.liveCount lane) :
    s.admission lane issuer serial generation dwell auth sealKey =
      .error (.laneFull (s.liveCount lane) s.settings.quota) := by
  simp [State.admission, free, full]

variable (room : s.liveCount lane < s.settings.quota)
include room

theorem admission_backlog (full : 48 ≤ s.queue.records.length) :
    s.admission lane issuer serial generation dwell auth sealKey = .error (.backlog s.queue.records.length) := by
  simp [State.admission, free, room.not_ge, full]

variable (short : s.queue.records.length < 48)
include short

theorem admission_overloaded (late : dwell < estimateFor s issuer serial generation sealKey.2 dwell + s.settings.margin) :
    s.admission lane issuer serial generation dwell auth sealKey =
      .error (.overloaded (estimateFor s issuer serial generation sealKey.2 dwell)) := by
  unfold estimateFor at late ⊢
  simp [State.admission, free, room.not_ge, short.not_ge, late.not_ge]

theorem admission_passes (fits : estimateFor s issuer serial generation sealKey.2 dwell + s.settings.margin ≤ dwell) :
    s.admission lane issuer serial generation dwell auth sealKey =
      .ok ⟨index, auth, sealKey.1, sealKey.2, cacheHit s.cache issuer serial generation .auth,
        cacheHit s.cache issuer serial sealKey.2 .seal, dwell, estimateFor s issuer serial generation sealKey.2 dwell⟩ := by
  unfold estimateFor at fits ⊢
  simp [State.admission, free, room.not_ge, short.not_ge, fits]

end

/-- Settles O14, check by check. -/
theorem openIsRefusedInOrder : Obligations.OpenIsRefusedInOrder := by
  intro s lane issuer serial generation nonce dwell i
  have refused (taken : s.takes i) {r : Refuse}
      (check : s.checkOpen lane issuer serial generation (dwellTaken dwell) = .error r) : Refuses i s r :=
    exec_outcome rfl rfl taken (by simp [ownOpen, check])
  refine ⟨fun taken off => refused taken (checkOpen_off off), fun ⟨running, on⟩ => ?_⟩
  have refused {r : Refuse} := refused (r := r) (takes_of_inService i ⟨running, on⟩)
  refine ⟨fun bad => refused (checkOpen_badLane on bad), fun good => ⟨fun off => refused (checkOpen_laneOff on good off),
    fun enabled => ⟨fun bad => ?_, fun notZero notAll => ?_⟩⟩⟩
  · exact refused (checkOpen_badIssuer on good enabled ((issuerValid_eq_false_iff issuer).mpr bad))
  have valid := (issuerValid_iff issuer).mpr ⟨notZero, notAll⟩
  refine ⟨fun idle => refused (checkOpen_thermal on good enabled valid idle), fun units => ?_⟩
  have entered : Entered s lane issuer := ⟨on, good, enabled, valid, units⟩
  refine ⟨fun c blocks => refused (checkOpen_duplicate entered blocks), fun unblocked =>
    ⟨fun r bad => refused (checkOpen_authRefused entered unblocked bad), fun auth hauth =>
      ⟨fun r bad => refused (checkOpen_sealRefused entered unblocked hauth bad), fun sealKey hseal => ?_⟩⟩⟩
  have admission {r : Refuse}
      (check : s.admission lane issuer serial generation (dwellTaken dwell) auth sealKey = .error r) : Refuses i s r :=
    refused ((checkOpen_resolved entered unblocked hauth hseal).trans check)
  refine ⟨fun full => admission (admission_tableFull full), fun notFull => ?_⟩
  obtain ⟨index, free⟩ := Option.ne_none_iff_exists'.mp notFull
  refine ⟨fun full => admission (admission_laneFull free full), fun room =>
    ⟨fun full => admission (admission_backlog free room full), fun short => ?_⟩⟩
  intro estimate late
  exact admission (admission_overloaded free room short late)

/-! ### An OPEN that is taken (R78) -/

theorem resolveAuth_of_active {slots : List Slot} (unique : triplesUnique slots) {i n : Nat} {k : MasterKey} {e : Epoch}
    (at_i : slots[i]? = some ⟨some k, e, n⟩) (role : k.role = .auth) (state : k.state = .active) {second : Nat}
    (begun : k.notBefore.toNat ≤ second) (open_ : second < k.notAfter.toNat) :
    resolveAuth slots k.issuer k.generation second = .ok ⟨i, e⟩ := by
  have held : heldAt slots i = some k := by simp [heldAt, at_i]
  have found := findSlot_of_holds unique ⟨k, held, rfl, rfl, role, rfl⟩
  simp [resolveAuth, found, at_i, state, begun.not_gt, open_.not_ge]

theorem activeSeal_of_active {slots : List Slot} (one : oneActiveSeal slots) {i : Nat} {k : MasterKey}
    (held : heldAt slots i = some k) (role : k.role = .seal) (state : k.state = .active) :
    activeSeal slots k.issuer = some i := by
  cases found : activeSeal slots k.issuer with
  | none => exact absurd ⟨rfl, role, state⟩ (activeSeal_eq_none found i k held)
  | some m =>
    obtain ⟨x, held', sameIssuer, role', state'⟩ := activeSeal_eq_some found
    rw [one m i x k held' held role' role state' state sameIssuer]

theorem resolveSeal_of_active {slots : List Slot} (one : oneActiveSeal slots) {i n : Nat} {k : MasterKey} {e : Epoch}
    (at_i : slots[i]? = some ⟨some k, e, n⟩) (role : k.role = .seal) (state : k.state = .active) (generation : Generation)
    {second : Nat} (begun : k.notBefore.toNat ≤ second) (open_ : second < k.notAfter.toNat) :
    resolveSeal slots k.issuer generation second = .ok (⟨i, e⟩, k.generation) := by
  have held : heldAt slots i = some k := by simp [heldAt, at_i]
  have found := activeSeal_of_active one held role state
  simp [resolveSeal, found, at_i, begun.not_gt, open_.not_ge]

theorem freeIndex_of_lowest {s : State} {index use : Nat} (free : s.places[index]? = some ⟨use, none⟩)
    (taken : ∀ n, n < index → (s.contextAt n).isSome = true) : s.freeIndex = some index := by
  obtain ⟨inside, place⟩ := List.getElem?_eq_some_iff.mp free
  refine List.findIdx?_eq_some_iff_getElem.mpr ⟨inside, by simp [place], fun n lt => ?_⟩
  have := taken n lt
  simpa [State.contextAt, List.getElem?_eq_getElem (lt.trans inside), Option.isSome_iff_ne_none] using this

theorem openCost_eq (authHit sealHit : Bool) :
    openCost authHit sealHit = 4 + (if authHit = true then 0 else 1) + (if sealHit = true then 0 else 1) := by
  cases authHit <;> cases sealHit <;> rfl

theorem nextUse_of_free {s : State} {index use : Nat} (free : s.places[index]? = some ⟨use, none⟩) :
    s.nextUse index = (use + 1) % 1024 := by
  simp [State.nextUse, free]

theorem ownOpen_of_checkOpen {s : State} {lane : Byte} {issuer : Issuer} {serial : Serial} {generation : Generation}
    {nonce : Half} {dwell : BitVec 16} {p : OpenPlan}
    (check : s.checkOpen lane issuer serial generation (dwellTaken dwell) = .ok p) :
    ownOpen lane issuer serial generation nonce dwell s =
      (s.takeOpen (s.newContext lane issuer serial generation nonce p) p,
        .opened (s.newContext lane issuer serial generation nonce p).handle
          (s.newContext lane issuer serial generation nonce p).deadline p.estimate
          (p.dwell - p.estimate - s.settings.margin) p.authHit p.sealHit) := by
  simp only [ownOpen, check]

/-- Settles O13: the plan that the twelve checks find, and the event that takes it. -/
theorem openIsTaken : Obligations.OpenIsTaken := by
  intro s lane issuer serial generation nonce dwell index use a b na nb ka kb ea eb on unique one good enabled notZero notAll
    units unblocked atA issuerA generationA roleA stateA begunA openA atB issuerB roleB stateB begunB openB free taken room
    short dwellMs authHit sealHit cost estimate fits handle challenge deadline context bound pinned
  have entered : Entered s lane issuer :=
    ⟨on.2, good, enabled, (issuerValid_iff issuer).mpr ⟨notZero, notAll⟩, Nat.one_le_iff_ne_zero.mp units⟩
  have noBlock : s.blockingContext issuer serial = none :=
    blockingContext_eq_none_iff.mpr fun n c at_n => unblocked c (mem_contexts.mpr ⟨n, at_n⟩)
  have hauth : resolveAuth s.slots issuer generation s.nowSeconds = .ok ⟨a, ea⟩ :=
    issuerA ▸ generationA ▸ resolveAuth_of_active unique atA roleA stateA begunA openA
  have hseal : resolveSeal s.slots issuer generation s.nowSeconds = .ok (⟨b, eb⟩, kb.generation) :=
    issuerB ▸ resolveSeal_of_active one atB roleB stateB generation begunB openB
  have sameCost : openCost authHit sealHit = cost := openCost_eq authHit sealHit
  have sameEstimate : estimateFor s issuer serial generation kb.generation dwellMs = estimate :=
    congrArg (s.openEstimate dwellMs) sameCost
  let plan : OpenPlan := ⟨index, ⟨a, ea⟩, ⟨b, eb⟩, kb.generation, authHit, sealHit, dwellMs, estimate⟩
  have check : s.checkOpen lane issuer serial generation dwellMs = .ok plan := by
    rw [checkOpen_resolved entered noBlock hauth hseal,
      admission_passes (freeIndex_of_lowest free taken) room short (sameEstimate.symm ▸ fits), sameEstimate]
  have sameContext : s.newContext lane issuer serial generation nonce plan = context := by
    simp only [State.newContext, State.nextHandle, plan, nextUse_of_free free, sameCost, context, handle, challenge, deadline]
  have sameEvent : s.takeOpen context plan = ((pinned.place (.opening handle issuer serial nonce challenge)
      (if authHit = true then [.readerProof] else [.derive .auth generation a ea, .readerProof]) deadline).arbitrate) := by
    simp only [State.takeOpen, plan, nextUse_of_free free]
    rfl
  refine exec_outcome (i := .openTag lane issuer serial generation nonce dwell) rfl rfl (takes_of_inService _ on) ?_
  rw [ownOpen_of_checkOpen check, sameContext, sameEvent]

end Sys2Proof.Machine.Transactions

/-! LANE jobs (R79 to R83, R128 to R134): what each operation of an OPEN, a VERIFY or a SEAL job hands to its context, and how
its unit goes on. -/

namespace Sys2Proof.Machine.LaneJobs

open Caching (handOver_jobs operationComplete_last operationComplete_middle)
open Loading (updateJob_of_mem)

/-! ### What an operation hands to its context (R119) -/

section
variable {s : State} {h : Handle} {i : Nat} {c : Context} (found : s.resolveHandle h = some (i, c))
include found

theorem forOwner_of_found (act : Nat → Context → State → State) : s.forOwner h act = act i c s := by
  simp [State.forOwner, found]

theorem laneDerivation_of_found (role : Role) (generation : Generation) (slot : Nat) (epoch : Epoch)
    (masterKey : Option Key) :
    s.laneDerivation h (.derive role generation slot epoch) masterKey =
      (s.insert c.issuer c.serial generation role slot epoch (some h) masterKey).updateContext i Context.spend := by
  rw [State.laneDerivation, forOwner_of_found found]

theorem finishProof_of_found :
    s.finishProof h = (s.updateContext i fun c => { c.spend with state := .live .awaitTag }).post
      (.opened h c.lane c.challenge (readerProofOf (pinnedKey s.cache h .auth) c.nonce c.challenge)) :=
  forOwner_of_found found _

/-- All 64 bits match (R81, R132). -/
theorem finishTagProof_of_match {proof : Half}
    (matched : tagProofOf (pinnedKey s.cache h .auth) c.nonce c.challenge = proof) :
    s.finishTagProof h proof =
      ((s.updateContext i fun c => { c.spend with state := .live .authenticated }).releasePin h .auth).post
        (.verified h c.lane) :=
  (forOwner_of_found found _).trans (if_pos matched)

theorem finishTagProof_of_difference {proof : Half}
    (differs : tagProofOf (pinnedKey s.cache h .auth) c.nonce c.challenge ≠ proof) :
    s.finishTagProof h proof = s.failContext i .authMismatch true :=
  (forOwner_of_found found _).trans (if_neg differs)

theorem finishSealFirst_of_found : s.finishSealFirst h = s.updateContext i Context.spend :=
  forOwner_of_found found _

theorem finishSeal_of_found (r : SealRecord) (first : Option Block) :
    s.finishSeal h r first =
      ((s.updateContext i fun c =>
          { c with state := .sealed r.stamp (sealOf (pinnedKey s.cache h .seal) (first.getD 0) r), reserved := 0 }).releasePin
        h .seal).post
        (.sealed h c.lane r.stamp c.sealGeneration (sealOf (pinnedKey s.cache h .seal) (first.getD 0) r)) :=
  forOwner_of_found found _

end

/-! ### What a job carries after an operation (R114) -/

theorem workAfter_owner (s : State) (work : Work) (op : Operation) : (s.workAfter work op).owner = work.owner := by
  unfold State.workAfter
  split <;> rfl

theorem workAfter_serves (s : State) (work : Work) (op : Operation) : (s.workAfter work op).serves = work.serves := by
  unfold State.workAfter
  split <;> rfl

/-- A derivation leaves what a job carries. -/
theorem workAfter_derive (s : State) (work : Work) (role : Role) (generation : Generation) (slot : Nat) (epoch : Epoch) :
    s.workAfter work (.derive role generation slot epoch) = work := by
  cases work <;> rfl

/-- The end of a job that is no keyset job completes no commit. -/
theorem endKeyset_of_owned (s : State) {work : Work} {h : Handle} (owner : work.owner = some h) : s.endKeyset work = s := by
  cases work with
  | keyset => cases owner
  | opening | verifying | sealing | prefetch => rfl

/-! ### How a unit goes on with a LANE job (R119) -/

section
variable {s : State} {name : UnitName} {masterKey : Option Key} {j : Job} (runs : s.runs name masterKey j)
  {op next : Operation} {rest : List Operation}
include runs

theorem exec_complete : exec (.operationComplete name) s = .next (State.operationComplete name s) :=
  event_running runs.1

/-- A serving unit goes on with the next operation of the job, which stands with its work changed (R114, R119). -/
theorem exec_middle (operations : j.operations = op :: next :: rest) (serves : (s.unit name).serves s.suspended = true)
    (notVerifying : ∀ h proof, j.work ≠ .verifying h proof) {work : Work} (changed : s.workAfter j.work op = work)
    {handed : State} (hands : s.handOver j.work op masterKey = handed) :
    exec (.operationComplete name) s = .next (handed.goesOn name (masterKeyFor s.slots (some next))
      { j with work := work, operations := next :: rest }) := by
  obtain ⟨-, -, mem, distinct⟩ := id runs
  subst hands changed
  have advanced : s.advanceJob op j = { j with work := s.workAfter j.work op, operations := next :: rest } := by
    simp [State.advanceJob, operations]
  rw [exec_complete runs, operationComplete_middle runs operations]
  simp only [State.middleOperation, serves, if_true, State.goesOn, handOver_jobs notVerifying, State.handOver_keeps,
    Ranges.unit_handOver, updateJob_of_mem mem distinct (s.advanceJob op), advanced, List.head?_cons]

/-- After its last operation a LANE job has left the queue, its context has its step, and the unit is FREE. -/
theorem exec_last (operations : j.operations = [op]) {h : Handle} (owner : j.work.owner = some h) {handed : State}
    (hands : (s.endJob j.sequence).handOver j.work op masterKey = handed) :
    exec (.operationComplete name) s = .next ((handed.freeUnit name).arbitrate) := by
  have noCommit (u : State) : u.endKeyset (s.workAfter j.work op) = u :=
    endKeyset_of_owned u ((workAfter_owner ..).trans owner)
  rw [exec_complete runs, operationComplete_last runs operations, State.lastOperation, noCommit]
  exact congrArg (fun u : State => Host.Outcome.next (u.freeUnit name).arbitrate) hands

end

/-- Settles O44, by what each of the operations hands to its context. -/
theorem openAndVerifyJobOperations : Obligations.OpenAndVerifyJobOperations := by
  constructor
  · intro s name masterKey j h issuer serial nonce challenge n c runs work found
    have owner : j.work.owner = some h := by rw [work]; rfl
    refine ⟨fun generation slot epoch operations serves => ?_, fun operations => ?_⟩
    · refine exec_middle runs operations serves (by simp [work]) (workAfter_derive ..) ?_
      rw [work]
      exact laneDerivation_of_found found ..
    · refine exec_last runs operations owner ?_
      rw [work]
      exact finishProof_of_found (s := s.endJob j.sequence) found
  · intro s name masterKey j h proof n c runs work operations found expected
    have owner : j.work.owner = some h := by rw [work]; rfl
    refine ⟨fun matched => exec_last runs operations owner ?_, fun differs => exec_last runs operations owner ?_⟩ <;>
      rw [work]
    · exact finishTagProof_of_match (s := s.endJob j.sequence) found matched
    · exact finishTagProof_of_difference (s := s.endJob j.sequence) found differs

/-- Settles O45, by what each of the three operations hands to the context and to the job. -/
theorem sealJobOperations : Obligations.SealJobOperations := by
  intro s name masterKey j h r first n c runs work found key s1 s2
  have owner : j.work.owner = some h := by rw [work]; rfl
  have notVerifying : ∀ h proof, j.work ≠ .verifying h proof := by simp [work]
  refine ⟨fun generation slot epoch operations serves => ?_, fun operations serves => ?_, fun c1 held operations => ?_⟩
  · refine exec_middle runs operations serves notVerifying (workAfter_derive ..) ?_
    rw [work]
    exact laneDerivation_of_found found ..
  · refine exec_middle runs operations serves notVerifying (work ▸ rfl) ?_
    rw [work]
    exact finishSealFirst_of_found found
  · intro result
    refine exec_last runs operations owner ?_
    rw [work, held]
    exact finishSeal_of_found (s := s.endJob j.sequence) found r (some c1)

end Sys2Proof.Machine.LaneJobs

/-! The laws of the Transaction Table and of the Work Queue (R73 to R90, R113 to R120): a command lets contexts stay, fail or
go together with their jobs and pins, leaves the table alone, clears it, or drives one context on; and what each of these
keeps. -/

namespace Sys2Proof.Machine.TableLaws

open CacheLaws (Named named_of_workLawful found_of_named handle_eq updateContext_places freeIndex_of_checkOpen
  nextHandle_parts)
open Caching (handOver_jobs not_verifying_of_suits operationComplete_last operationComplete_middle)
open LaneJobs
open Transactions (blockingContext_eq_none_iff failContext_of_dead failContext_eq_failed freeContext_eq_freed)

/-! ### Jobs beside the arbiter's marks (R113, R116) -/

/-- A job without the marks that the arbiter sets. -/
def atRest (j : Job) : Job := { j with running := false, started := false }

/-- The jobs of one queue are among those of another, in their order and but for the arbiter's marks. -/
def JobsWithin (jobs others : List Job) : Prop := (jobs.map atRest).Sublist (others.map atRest)

theorem JobsWithin.of_eq {jobs others : List Job} (h : jobs.map atRest = others.map atRest) : JobsWithin jobs others := by
  rw [JobsWithin, h]

theorem JobsWithin.of_sublist {jobs others : List Job} (h : jobs.Sublist others) : JobsWithin jobs others := h.map atRest

theorem JobsWithin.trans {jobs others more : List Job} (h : JobsWithin jobs others) (k : JobsWithin others more) :
    JobsWithin jobs more := List.Sublist.trans h k

/-- A job of the one queue has its fields but the marks in the other. -/
theorem JobsWithin.mem {jobs others : List Job} (h : JobsWithin jobs others) {j : Job} (mem : j ∈ jobs) :
    ∃ k ∈ others, k.work = j.work ∧ k.operations = j.operations ∧ k.sequence = j.sequence := by
  obtain ⟨k, hk, same⟩ := List.mem_map.mp (h.subset (List.mem_map_of_mem mem))
  rw [atRest, atRest, Job.mk.injEq] at same
  exact ⟨k, hk, same.1, same.2.1, same.2.2.2.1⟩

/-- What does not depend on the marks keeps its order. -/
theorem JobsWithin.filterMap {jobs others : List Job} (h : JobsWithin jobs others) {α : Type} {f : Job → Option α}
    (unmarked : ∀ j, f (atRest j) = f j) : (jobs.filterMap f).Sublist (others.filterMap f) := by
  have rests : f ∘ atRest = f := funext unmarked
  have := List.Sublist.filterMap f h
  rwa [List.filterMap_map, List.filterMap_map, rests] at this

theorem JobsWithin.unowned {jobs others : List Job} (within : JobsWithin jobs others) {h : Handle}
    (none : ∀ j ∈ others, j.work.owner ≠ some h) : ∀ j ∈ jobs, j.work.owner ≠ some h := by
  intro j mem
  obtain ⟨k, hk, work, -⟩ := within.mem mem
  exact work ▸ none k hk

theorem updateJob_marks (jobs : List Job) (sequence : Nat) (f : Job → Job) (marks : ∀ j, atRest (f j) = atRest j) :
    (updateJob jobs sequence f).map atRest = jobs.map atRest := by
  rw [updateJob, List.map_map]
  refine List.map_congr_left fun j _ => ?_
  rw [Function.comp_apply]
  split
  · exact marks j
  · rfl

@[simp] theorem takeNext_atRest (s : State) (name : UnitName) : (s.takeNext name).jobs.map atRest = s.jobs.map atRest := by
  obtain ⟨same, -⟩ | ⟨j, -, -, taken⟩ := s.takeNext_cases name
  · rw [same]
  · rw [taken]
    simp only [State.setUnit_keeps, State.setJobs_jobs]
    exact updateJob_marks _ _ _ fun _ => rfl

@[simp] theorem arbitrate_atRest (s : State) : s.arbitrate.jobs.map atRest = s.jobs.map atRest := by
  simp [State.arbitrate]

/-! ### The laws of the table and the queue -/

/-- The laws of the Work Queue and of the tags together. -/
structure Working (s : State) : Prop where
  size : s.places.length = 48
  named : Named s.places
  served : ∀ j ∈ s.jobs, ∀ h, j.work.owner = some h →
    ∃ i c l, s.resolveHandle h = some (i, c) ∧ j.work.serves = some l ∧ c.state = .live l
  owners : (s.jobs.filterMap (·.work.owner)).Nodup
  sequences : (s.jobs.map (·.sequence)).Nodup
  given : ∀ j ∈ s.jobs, j.sequence < s.nextSequence
  suits : ∀ j ∈ s.jobs, j.suits
  tags : s.tagsUnique

theorem working_iff (s : State) : Working s ↔ s.workLawful ∧ s.tagsUnique := by
  constructor
  · intro w
    exact ⟨⟨w.size, fun i c at_i => found_of_named w.named at_i, w.served, w.owners, w.sequences, w.given, w.suits⟩, w.tags⟩
  · rintro ⟨work, tags⟩
    have named := named_of_workLawful work
    obtain ⟨size, -, served, owners, sequences, given, suits⟩ := work
    exact ⟨size, named, served, owners, sequences, given, suits, tags⟩

/-- What a context is named by and whether it has failed: the rest of it may change (R73, R77). -/
structure Remains (c d : Context) : Prop where
  handle : d.handle = c.handle
  issuer : d.issuer = c.issuer
  serial : d.serial = c.serial
  failed : c.isFailed = true → d.isFailed = true

theorem Remains.trans {c d e : Context} (h : Remains c d) (k : Remains d e) : Remains c e :=
  ⟨k.handle.trans h.handle, k.issuer.trans h.issuer, k.serial.trans h.serial, k.failed ∘ h.failed⟩

/-- A change of the table and the queue in which no context is new, and a context that has left its state has no job. -/
structure Carries (s t : State) : Prop where
  uses : t.places.map (·.useCount) = s.places.map (·.useCount)
  came : ∀ n d, t.contextAt n = some d → ∃ c, s.contextAt n = some c ∧ Remains c d
  serves : ∀ n c, s.contextAt n = some c →
    (∃ d, t.contextAt n = some d ∧ d.state = c.state) ∨ ∀ j ∈ t.jobs, j.work.owner ≠ some c.handle
  jobs : JobsWithin t.jobs s.jobs
  next : s.nextSequence ≤ t.nextSequence

/-- A place with a context has in the other state the same use count. -/
theorem useCount_of_uses {s t : State} (uses : t.places.map (·.useCount) = s.places.map (·.useCount)) {n u v : Nat}
    {o p : Option Context} (at_s : s.places[n]? = some ⟨u, o⟩) (at_t : t.places[n]? = some ⟨v, p⟩) : v = u := by
  have same := congrArg (·[n]?) uses
  simpa [List.getElem?_map, at_s, at_t] using same

/-- A change that carries the contexts keeps the laws. -/
theorem Working.carried {s t : State} (w : Working s) (carries : Carries s t) : Working t where
  size := by simpa [w.size] using congrArg List.length carries.uses
  named := by
    intro n v d at_n
    obtain ⟨c, before, remains⟩ := carries.came n d (State.contextAt_eq_some.mpr ⟨v, at_n⟩)
    obtain ⟨u, at_n'⟩ := State.contextAt_eq_some.mp before
    rw [useCount_of_uses carries.uses at_n' at_n, remains.handle]
    exact w.named n u c at_n'
  served := by
    intro j mem h owner
    obtain ⟨k, hk, work, -⟩ := carries.jobs.mem mem
    obtain ⟨i, c, l, found, serves, live⟩ := w.served k hk h (work ▸ owner)
    obtain ⟨index, lt, at_i⟩ := State.resolveHandle_eq_some.mp found
    obtain ⟨own, -, use⟩ := w.named i _ c at_i
    have handle : c.handle = h := handle_eq (own.symm.trans index) use.symm
    obtain ⟨d, after, state⟩ | gone := carries.serves i c (State.resolveHandle_contextAt found)
    · obtain ⟨v, at_i'⟩ := State.contextAt_eq_some.mp after
      obtain rfl := useCount_of_uses carries.uses at_i at_i'
      exact ⟨i, d, l, State.resolveHandle_eq_some.mpr ⟨index, lt, at_i'⟩, work ▸ serves, state.trans live⟩
    · exact absurd (handle ▸ owner) (gone j mem)
  owners := w.owners.sublist (carries.jobs.filterMap fun _ => rfl)
  sequences := by
    have sub := carries.jobs.filterMap (f := fun j => some j.sequence) fun _ => rfl
    simp only [List.filterMap_eq_map'] at sub
    exact w.sequences.sublist sub
  given := by
    intro j mem
    obtain ⟨k, hk, -, -, sequence⟩ := carries.jobs.mem mem
    exact sequence ▸ Nat.lt_of_lt_of_le (w.given k hk) carries.next
  suits := by
    intro j mem
    obtain ⟨k, hk, work, operations, -⟩ := carries.jobs.mem mem
    have := w.suits k hk
    rwa [Job.suits, work, operations] at this
  tags := by
    intro m n d e at_m at_n liveD liveE issuer serial
    obtain ⟨c, before, remains⟩ := carries.came m d at_m
    obtain ⟨c', before', remains'⟩ := carries.came n e at_n
    have alive {c d : Context} (remains : Remains c d) (live : d.isFailed = false) : c.isFailed = false :=
      Bool.eq_false_iff.mpr fun failed => by simp [remains.failed failed] at live
    exact w.tags m n c c' before before' (alive remains liveD) (alive remains' liveE)
      (remains.issuer.symm.trans (issuer.trans remains'.issuer)) (remains.serial.symm.trans (serial.trans remains'.serial))

theorem Carries.trans {s t u : State} (h : Carries s t) (k : Carries t u) : Carries s u where
  uses := k.uses.trans h.uses
  came := by
    intro n e after
    obtain ⟨d, between, remains'⟩ := k.came n e after
    obtain ⟨c, before, remains⟩ := h.came n d between
    exact ⟨c, before, remains.trans remains'⟩
  serves := by
    intro n c before
    obtain ⟨d, between, state⟩ | gone := h.serves n c before
    · obtain ⟨c', before', remains⟩ := h.came n d between
      obtain rfl : c = c' := Option.some.inj (before.symm.trans before')
      obtain ⟨e, after, state'⟩ | gone := k.serves n d between
      · exact .inl ⟨e, after, state'.trans state⟩
      · exact .inr (remains.handle ▸ gone)
    · exact .inr (k.jobs.unowned gone)
  jobs := k.jobs.trans h.jobs
  next := h.next.trans k.next

/-- The table stands and jobs leave the queue. -/
theorem Carries.of_places {s t : State} (places : t.places = s.places) (jobs : JobsWithin t.jobs s.jobs)
    (next : t.nextSequence = s.nextSequence) : Carries s t where
  uses := by rw [places]
  came := fun n d after => ⟨d, by rwa [State.contextAt, places] at after, rfl, rfl, rfl, id⟩
  serves := fun n c before => .inl ⟨c, by rwa [State.contextAt, places], rfl⟩
  jobs := jobs
  next := next.ge

/-- One context changes: it keeps its state, or it has no job. -/
theorem Carries.updateContext (s : State) (i : Nat) {f : Context → Context}
    (remains : ∀ c, s.contextAt i = some c → Remains c (f c))
    (serves : ∀ c, s.contextAt i = some c → (f c).state = c.state ∨ ∀ j ∈ s.jobs, j.work.owner ≠ some c.handle) :
    Carries s (s.updateContext i f) where
  uses := by
    refine List.ext_getElem? fun n => ?_
    simp only [State.updateContext, State.setPlaces_places, List.getElem?_map, List.getElem?_modify]
    cases s.places[n]? with
    | none => rfl
    | some p => by_cases same : i = n <;> simp [same]
  came := by
    intro n d after
    rw [State.contextAt_updateContext] at after
    split at after
    · rename_i same
      subst same
      obtain ⟨c, before, rfl⟩ := Option.map_eq_some_iff.mp after
      exact ⟨c, before, remains c before⟩
    · exact ⟨d, after, rfl, rfl, rfl, id⟩
  serves := by
    intro n c before
    rw [State.contextAt_updateContext, before]
    split
    · rename_i same
      subst same
      exact (serves c before).imp (fun state => ⟨f c, rfl, state⟩) fun gone => by simpa using gone
    · exact .inl ⟨c, rfl, rfl⟩
  jobs := .of_eq (by simp)
  next := by simp

/-! ### Contexts that stay, fail or go (R12, R84 to R90) -/

/-- A handle has no job on the queue and no pin in the cache. -/
def Unheld (s : State) (h : Handle) : Prop := (∀ j ∈ s.jobs, j.work.owner ≠ some h) ∧ ∀ e ∈ s.cache, e.pin ≠ some h

/-- What has become of the context c of an index in the state t, where no command drove it on: it stays, though it may be
tainted; it has failed, with its record where failures are posted; or it is freed. -/
inductive Fate (posted : Bool) (t : State) (n : Nat) (c : Context) : Prop
  | stays (a b : Bool) (after : t.contextAt n = some { c with authTaint := a, sealTaint := b })
  | fails (l : LiveState) (reason : FailReason) (a b : Bool) (live : c.state = .live l)
      (after : t.contextAt n =
        some { c with state := .failed reason l, reserved := 0, authTaint := a, sealTaint := b })
      (unheld : Unheld t c.handle)
      (record : posted = true → t.service ≠ .zeroized →
        .failed c.handle c.lane reason l ∈ t.queue.records ∨ t.queue.overflow = true)
  | goes (after : t.contextAt n = none) (unheld : Unheld t c.handle)

/-- A change that drives no context on and loses no record: contexts stay, fail or go, with their jobs and pins. -/
structure Withers (posted : Bool) (s t : State) : Prop where
  uses : t.places.map (·.useCount) = s.places.map (·.useCount)
  fate : ∀ n c, s.contextAt n = some c → Fate posted t n c
  free : ∀ n, s.contextAt n = none → t.contextAt n = none
  jobs : JobsWithin t.jobs s.jobs
  next : t.nextSequence = s.nextSequence
  pins : ∀ e ∈ t.cache, ∀ h, e.pin = some h → ∃ x ∈ s.cache, x.pin = some h
  records : ∀ r ∈ s.queue.records, r ∈ t.queue.records
  overflow : s.queue.overflow = true → t.queue.overflow = true
  service : t.service = .zeroized ↔ s.service = .zeroized

variable {posted : Bool}

/-- The table stands, and jobs and pins may end. -/
theorem Withers.of_places {s t : State} (places : t.places = s.places) (jobs : JobsWithin t.jobs s.jobs)
    (next : t.nextSequence = s.nextSequence) (pins : ∀ e ∈ t.cache, ∀ h, e.pin = some h → ∃ x ∈ s.cache, x.pin = some h)
    (records : ∀ r ∈ s.queue.records, r ∈ t.queue.records) (overflow : s.queue.overflow = true → t.queue.overflow = true)
    (service : t.service = .zeroized ↔ s.service = .zeroized) : Withers posted s t where
  uses := by rw [places]
  fate := fun n c before => .stays c.authTaint c.sealTaint (by rwa [State.contextAt, places])
  free := fun n before => by rwa [State.contextAt, places]
  jobs := jobs
  next := next
  pins := pins
  records := records
  overflow := overflow
  service := service

/-- Nothing that the laws speak of changes but the marks of the jobs. -/
theorem Withers.of_same {s t : State} (places : t.places = s.places) (jobs : t.jobs.map atRest = s.jobs.map atRest)
    (next : t.nextSequence = s.nextSequence) (cache : t.cache = s.cache) (queue : t.queue = s.queue)
    (service : t.service = s.service) : Withers posted s t :=
  .of_places places (.of_eq jobs) next (fun e he _ pin => ⟨e, cache ▸ he, pin⟩) (fun _ hr => queue ▸ hr) (queue ▸ id)
    (by rw [service])

theorem Withers.refl (s : State) : Withers posted s s := .of_same rfl rfl rfl rfl rfl rfl

theorem Unheld.withers {s t : State} {h : Handle} (unheld : Unheld s h) (withers : Withers posted s t) : Unheld t h := by
  obtain ⟨jobs, pins⟩ := unheld
  refine ⟨withers.jobs.unowned jobs, fun e he pin => ?_⟩
  obtain ⟨x, hx, same⟩ := withers.pins e he h pin
  exact pins x hx same

theorem Fate.withers {s t : State} {n : Nat} {c : Context} (fate : Fate posted s n c) (withers : Withers posted s t) :
    Fate posted t n c := by
  cases fate with
  | stays a b between =>
    cases withers.fate n _ between with
    | stays a' b' after => exact .stays a' b' after
    | fails l reason a' b' live after unheld record => exact .fails l reason a' b' live after unheld record
    | goes after unheld => exact .goes after unheld
  | fails l reason a b live between unheld record =>
    have recorded : posted = true → t.service ≠ .zeroized →
        .failed c.handle c.lane reason l ∈ t.queue.records ∨ t.queue.overflow = true := fun p notZeroized =>
      (record p (withers.service.not.mp notZeroized)).imp (withers.records _) withers.overflow
    cases withers.fate n _ between with
    | stays a' b' after => exact .fails l reason a' b' live after (unheld.withers withers) recorded
    | fails l' reason' a' b' live' => cases live'
    | goes after unheld' => exact .goes after unheld'
  | goes between unheld => exact .goes (withers.free n between) (unheld.withers withers)

theorem Withers.trans {s t u : State} (h : Withers posted s t) (k : Withers posted t u) : Withers posted s u where
  uses := k.uses.trans h.uses
  fate := fun n c before => (h.fate n c before).withers k
  free := fun n before => k.free n (h.free n before)
  jobs := k.jobs.trans h.jobs
  next := k.next.trans h.next
  pins := fun e he p pin => by
    obtain ⟨x, hx, pin'⟩ := k.pins e he p pin
    exact h.pins x hx p pin'
  records := fun r hr => k.records r (h.records r hr)
  overflow := k.overflow ∘ h.overflow
  service := k.service.trans h.service

/-- Contexts that wither keep the laws of the table and the queue. -/
theorem Withers.carries {s t : State} (h : Withers posted s t) : Carries s t where
  uses := h.uses
  came := by
    intro n d after
    cases before : s.contextAt n with
    | none => cases after.symm.trans (h.free n before)
    | some c =>
      refine ⟨c, rfl, ?_⟩
      cases h.fate n c before with
      | stays a b after' =>
        cases after.symm.trans after'
        exact ⟨rfl, rfl, rfl, id⟩
      | fails l reason a b live after' =>
        cases after.symm.trans after'
        exact ⟨rfl, rfl, rfl, fun _ => rfl⟩
      | goes after' => cases after.symm.trans after'
  serves := by
    intro n c before
    cases h.fate n c before with
    | stays a b after => exact .inl ⟨_, after, rfl⟩
    | fails l reason a b live after unheld => exact .inr unheld.1
    | goes after unheld => exact .inr unheld.1
  jobs := h.jobs
  next := h.next.ge

/-- A live context that has failed after a withering has the effects of R84. -/
theorem Withers.failed {s t : State} (h : Withers posted s t) {n : Nat} {c d : Context} {l m : LiveState}
    {reason : FailReason} (before : s.contextAt n = some c) (live : c.state = .live l) (after : t.contextAt n = some d)
    (failed : d.state = .failed reason m) :
    m = l ∧ d = { c with state := .failed reason l, reserved := 0, authTaint := d.authTaint, sealTaint := d.sealTaint } ∧
      Unheld t c.handle ∧
      (posted = true → s.service ≠ .zeroized →
        .failed c.handle c.lane reason l ∈ t.queue.records ∨ t.queue.overflow = true) := by
  cases h.fate n c before with
  | stays a b after' =>
    cases after.symm.trans after'
    cases live.symm.trans failed
  | fails l' reason' a b live' after' unheld record =>
    cases live.symm.trans live'
    cases after.symm.trans after'
    cases failed
    exact ⟨rfl, rfl, unheld, fun p notZeroized => record p (h.service.not.mpr notZeroized)⟩
  | goes after' => cases after.symm.trans after'

/-! ### The shared operations wither contexts -/

theorem push_records (q : CompletionQueue) (r : CompletionRecord) : ∀ x ∈ q.records, x ∈ (q.push r).records := by
  intro x hx
  unfold CompletionQueue.push
  split
  · exact List.mem_append_left _ hx
  · exact hx

theorem push_overflow (q : CompletionQueue) (r : CompletionRecord) (h : q.overflow = true) : (q.push r).overflow = true := by
  unfold CompletionQueue.push
  split
  · exact h
  · rfl

/-- A record that is pushed is held, or the overflow mark is set (R166). -/
theorem push_holds (q : CompletionQueue) (r : CompletionRecord) : r ∈ (q.push r).records ∨ (q.push r).overflow = true := by
  unfold CompletionQueue.push
  split
  · exact .inl (by simp)
  · exact .inr rfl

theorem Withers.post (s : State) (r : CompletionRecord) : Withers posted s (s.post r) := by
  obtain ⟨same, -⟩ | ⟨pushed, -⟩ := s.post_eq r
  · rw [same]
    exact .refl s
  · rw [pushed]
    exact .of_places rfl (.of_eq rfl) rfl (fun e he _ pin => ⟨e, he, pin⟩) (push_records s.queue r) (push_overflow s.queue r)
      Iff.rfl

theorem Withers.cancelJobs (s : State) (p : Job → Bool) : Withers posted s (s.cancelJobs p) :=
  .of_places rfl (.of_sublist List.filter_sublist) rfl (fun e he _ pin => ⟨e, he, pin⟩) (fun _ => id) id Iff.rfl

theorem Withers.arbitrate (s : State) : Withers posted s s.arbitrate :=
  .of_same (by simp) (by simp) (by simp) (by simp) (by simp) (by simp)

theorem Withers.freeUnit (s : State) (name : UnitName) : Withers posted s (s.freeUnit name) :=
  .of_same (by simp) (by simp) (by simp) (by simp) (by simp) (by simp)

theorem Withers.answered (s : State) (i : Instr) (a : Answer) : Withers posted s (s.answered i a) :=
  .of_same rfl rfl rfl rfl rfl rfl

/-- The pins of a context are released, and no pin is new (R64). -/
theorem mem_pinsReleased {h : Handle} {cache : List CacheEntry} {e : CacheEntry} (mem : e ∈ pinsReleased [h] cache)
    {k : Handle} (pin : e.pin = some k) : k ≠ h ∧ e ∈ cache := by
  obtain ⟨x, hx, left⟩ := List.mem_filterMap.mp mem
  cases own : x.pin with
  | none =>
    simp only [own] at left
    cases left
    cases own.symm.trans pin
  | some k' =>
    simp only [own, List.mem_singleton] at left
    split at left
    · split at left <;> cases left
      cases pin
    · rename_i other
      cases left
      cases own.symm.trans pin
      exact ⟨other, hx⟩

theorem mem_jobsWithout {h : Handle} {jobs : List Job} {j : Job} (mem : j ∈ jobsWithout [h] jobs) :
    j ∈ jobs ∧ j.work.owner ≠ some h := by
  simpa [jobsWithout] using mem

theorem modify_uses (places : List Place) (n : Nat) (f : Place → Place) (keeps : ∀ p, (f p).useCount = p.useCount) :
    (places.modify n f).map (·.useCount) = places.map (·.useCount) := by
  refine List.ext_getElem? fun m => ?_
  simp only [List.getElem?_map, List.getElem?_modify]
  cases places[m]? with
  | none => rfl
  | some p => by_cases same : n = m <;> simp [same, keeps]

theorem contextAt_modify {s t : State} {n : Nat} {f : Place → Place} (places : t.places = s.places.modify n f) (m : Nat) :
    t.contextAt m = if n = m then (s.places[m]?).bind fun p => (f p).context else s.contextAt m := by
  rw [State.contextAt, places, List.getElem?_modify]
  split <;> cases h : s.places[m]? <;> simp [State.contextAt, h]

/-- The context that fails and the rest of the table (R84). -/
theorem Withers.of_failed {s : State} {n : Nat} {c : Context} {l : LiveState} (at_n : s.contextAt n = some c)
    (live : c.state = .live l) (reason : FailReason) : Withers posted s (s.failed n c l reason posted) := by
  obtain ⟨u, place⟩ := State.contextAt_eq_some.mp at_n
  have after (m : Nat) := contextAt_modify (s := s) (t := s.failed n c l reason posted) rfl m
  refine ⟨modify_uses _ _ _ fun _ => rfl, fun m d before => ?_, fun m before => ?_,
    .of_sublist List.filter_sublist, rfl, fun e he k pin => ⟨e, (mem_pinsReleased he pin).2, pin⟩, fun r hr => ?_,
    fun lost => ?_, Iff.rfl⟩
  · by_cases same : n = m
    · subst same
      obtain rfl : c = d := Option.some.inj (at_n.symm.trans before)
      refine .fails l reason c.authTaint c.sealTaint live (by rw [after, if_pos rfl, place]; rfl)
        ⟨fun j mem => (mem_jobsWithout mem).2, fun e mem pin => (mem_pinsReleased mem pin).1 rfl⟩ fun p notZeroized => ?_
      have queue : (s.failed n c l reason posted).queue = s.queue.push (.failed c.handle c.lane reason l) :=
        if_pos ⟨p, notZeroized⟩
      rw [queue]
      exact push_holds ..
    · exact .stays d.authTaint d.sealTaint (by rw [after, if_neg same, before])
  · rw [after, if_neg, before]
    rintro rfl
    cases at_n.symm.trans before
  · simp only [State.failed]
    split
    · exact push_records _ _ r hr
    · exact hr
  · simp only [State.failed]
    split
    · exact push_overflow _ _ lost
    · exact lost

theorem Withers.failContext (s : State) (n : Nat) (reason : FailReason) :
    Withers posted s (s.failContext n reason posted) := by
  by_cases fails : ∃ c l, s.contextAt n = some c ∧ c.state = .live l
  · obtain ⟨c, l, at_n, live⟩ := fails
    rw [failContext_eq_failed reason posted at_n live]
    exact .of_failed at_n live reason
  · rw [failContext_of_dead reason posted fun c l at_n live => fails ⟨c, l, at_n, live⟩]
    exact .refl s

theorem Withers.failEach (s : State) (indices : List Nat) (reason : FailReason) :
    Withers true s (s.failEach indices reason) := by
  induction indices generalizing s with
  | nil => exact .refl s
  | cons n rest ih => exact (Withers.failContext s n reason).trans (ih _)

theorem Withers.freeContext {s : State} {n : Nat} {c : Context} (at_n : s.contextAt n = some c) :
    Withers posted s (s.freeContext n c) := by
  rw [freeContext_eq_freed]
  have after (m : Nat) := contextAt_modify (s := s) (t := s.freed n c) rfl m
  have gone : (s.freed n c).contextAt n = none := by
    rw [after, if_pos rfl]
    cases s.places[n]? <;> rfl
  refine ⟨modify_uses _ _ _ fun _ => rfl, fun m d before => ?_, fun m before => ?_,
    .of_sublist List.filter_sublist, rfl, fun e he k pin => ⟨e, (mem_pinsReleased he pin).2, pin⟩, fun _ => id, id, Iff.rfl⟩
  · by_cases same : n = m
    · subst same
      obtain rfl : c = d := Option.some.inj (at_n.symm.trans before)
      exact .goes gone ⟨fun j mem => (mem_jobsWithout mem).2, fun e mem pin => (mem_pinsReleased mem pin).1 rfl⟩
    · exact .stays d.authTaint d.sealTaint (by rw [after, if_neg same, before])
  · by_cases same : n = m
    · exact same ▸ gone
    · rw [after, if_neg same, before]

theorem Withers.postAbandoned (s : State) (records : List Rollover) : Withers posted s (s.postAbandoned records) := by
  induction records generalizing s with
  | nil => exact .refl s
  | cons r rest ih => exact (Withers.post s _).trans (ih _)

/-- A withdrawal taints contexts, then fails those whose job it reaches (R10 to R14). -/
theorem Withers.withdraw (s : State) (withdrawn : List Nat) : Withers true s (s.withdraw withdrawn) := by
  have tainted : Withers true s (((s.setSlots (emptyEach s.slots withdrawn)).setCache
      (s.cache.filterMap (CacheEntry.withdrawn s.slots withdrawn))).setPlaces
      (CacheLaws.taintedPlaces s.slots withdrawn s.places)) := by
    have after (n : Nat) : (((s.setSlots (emptyEach s.slots withdrawn)).setCache
        (s.cache.filterMap (CacheEntry.withdrawn s.slots withdrawn))).setPlaces
        (CacheLaws.taintedPlaces s.slots withdrawn s.places)).contextAt n =
        (s.contextAt n).map (Context.tainted s.slots withdrawn) := by
      simp only [State.contextAt, State.setPlaces_places, CacheLaws.taintedPlaces, List.getElem?_map]
      cases s.places[n]? <;> rfl
    refine ⟨by simp [CacheLaws.taintedPlaces], fun n c before => .stays _ _ ((after n).trans (by rw [before]; rfl)),
      fun n before => (after n).trans (by rw [before]; rfl), .of_eq rfl, rfl, fun e he h pin => ?_, fun _ => id, id, Iff.rfl⟩
    obtain ⟨x, hx, left⟩ := List.mem_filterMap.mp he
    obtain ⟨rfl, -⟩ | ⟨-, rfl⟩ := CacheLaws.withdrawn_cases left
    · exact ⟨e, hx, pin⟩
    · exact ⟨x, hx, pin⟩
  have failed := tainted.trans
    (.failEach _ (s.indicesWhere (Context.jobReached s.slots s.jobs withdrawn)) .keyWithdrawn)
  refine (failed.trans (u := State.setRollovers _ (s.rollovers.filter fun r => !r.names withdrawn)) ?_).trans
    (.postAbandoned _ (s.rollovers.filter (Rollover.names withdrawn)))
  exact .of_same rfl rfl rfl rfl rfl rfl

/-! ### Commands that drive no context on -/

/-- A command of the table that takes a context on, and the completion of an operation. -/
def driving : Instr → Bool
  | .openTag _ _ _ _ _ _ => true
  | .verify _ _ => true
  | .sealTag _ _ _ _ => true
  | .operationComplete _ => true
  | _ => false

/-- What a command that drives no context on does to the table and the queue: contexts wither, or the table stands and jobs
may leave the queue or one that serves no context may join it, or all is cleared. -/
inductive Shape (s t : State) : Prop
  | withers (h : Withers true s t)
  | stands (places : t.places = s.places) (jobs : JobsWithin t.jobs s.jobs) (next : t.nextSequence = s.nextSequence)
  | queues (j : Job) (places : t.places = s.places) (jobs : t.jobs.map atRest = (s.jobs ++ [j]).map atRest)
      (sequence : j.sequence = s.nextSequence) (next : t.nextSequence = s.nextSequence + 1) (unowned : j.work.owner = none)
      (suits : j.suits)
  | clears (places : t.places = List.replicate 48 Place.fresh) (jobs : t.jobs = [])

theorem Shape.refl (s : State) : Shape s s := .withers (.refl s)

theorem Shape.answered {s t : State} (h : Shape s t) (i : Instr) (a : Answer) : Shape s (t.answered i a) := by
  cases h with
  | withers h => exact .withers (h.trans (.answered t i a))
  | stands places jobs next => exact .stands places jobs next
  | queues j places jobs sequence next unowned suits => exact .queues j places jobs sequence next unowned suits
  | clears places jobs => exact .clears places jobs

/-- The arbiter changes only the marks of the jobs. -/
theorem place_arbitrate_atRest (s : State) (work : Work) (operations : List Operation) (time : Nat) :
    (s.place work operations time).arbitrate.jobs.map atRest =
      (s.jobs ++ [(⟨work, operations, time, s.nextSequence, false, false⟩ : Job)]).map atRest := by
  rw [arbitrate_atRest]
  rfl

theorem place_arbitrate_next (s : State) (work : Work) (operations : List Operation) (time : Nat) :
    (s.place work operations time).arbitrate.nextSequence = s.nextSequence + 1 := by
  simp only [State.arbitrate_keeps]
  rfl

/-- The derivations of a PREFETCH job, of which one at least is missing (R69, R114). -/
theorem suits_prefetch (issuer : Issuer) (serial : Serial) (generation : Generation) (auth : Binding)
    (sealKey : Binding × Generation) {authHit sealHit : Bool} (missing : ¬ (authHit && sealHit) = true)
    (time sequence : Nat) :
    Job.suits ⟨.prefetch issuer serial, prefetchOperations generation auth sealKey authHit sealHit, time, sequence, false,
      false⟩ := by
  cases authHit <;> cases sealHit <;> simp [Job.suits, prefetchOperations] at missing ⊢

theorem ownPrefetch_shape (s : State) (issuer serial generation) : Shape s (ownPrefetch issuer serial generation s).1 := by
  have looked (sealGeneration : Generation) : Shape s (s.prefetchLookups issuer serial generation sealGeneration) :=
    .stands (by simp) (.of_eq (by simp)) (by simp)
  unfold ownPrefetch
  split
  · exact .refl s
  split
  · exact .refl s
  split
  · exact .refl s
  rename_i auth _
  split
  · exact .refl s
  rename_i sealKey _
  unfold State.prefetchResolved
  dsimp only
  split
  · exact looked _
  rename_i missing
  split
  · exact looked _
  · exact .queues
      ⟨.prefetch issuer serial, prefetchOperations generation auth sealKey _ _, s.nowMs, s.nextSequence, false, false⟩
      (by simp) ((place_arbitrate_atRest ..).trans (by simp)) rfl ((place_arbitrate_next ..).trans (by simp)) rfl
      (suits_prefetch issuer serial generation auth sealKey missing _ _)

theorem ownStageCommit_shape (s : State) (crc) : Shape s (ownStageCommit crc s).1 := by
  have ended : Shape s (s.setStager .idle) := .stands rfl (.of_eq rfl) rfl
  unfold ownStageCommit
  split
  · exact .refl s
  · exact .refl s
  rename_i l _
  split
  · exact .refl s
  unfold State.commit
  dsimp only
  split
  · exact ended
  split
  · exact ended
  split
  · exact ended
  split
  · exact ended
  · exact .queues ⟨.keyset l [] [], _, _, s.nextSequence, false, false⟩ (by simp) (place_arbitrate_atRest ..) rfl
      (place_arbitrate_next ..) rfl trivial

theorem ownServiceOff_shape (s : State) : Shape s (ownServiceOff s).1 := by
  unfold ownServiceOff
  split
  · rename_i on
    have off : Withers true s (s.setService .serviceOff) :=
      .of_places rfl (.of_eq rfl) rfl (fun e he _ pin => ⟨e, he, pin⟩) (fun _ => id) id (by simp [on])
    exact .withers ((off.trans (.failEach _ _ _)).trans (.cancelJobs _ _))
  · exact .refl s

theorem ownLanes_shape (s : State) (setMask clearMask) : Shape s (ownLanes setMask clearMask s).1 := by
  unfold ownLanes
  split
  · exact .refl s
  · have masked (v : Byte) : Withers true s (s.setMask v) := .of_same rfl rfl rfl rfl rfl rfl
    exact .withers ((masked _).trans (.failEach _ _ _))

theorem ownKeyWithdraw_shape (s : State) (issuer generation roles) :
    Shape s (ownKeyWithdraw issuer generation roles s).1 := by
  unfold ownKeyWithdraw
  dsimp only
  split
  · exact .refl s
  split
  · exact .refl s
  split
  · exact .refl s
  · exact .withers (.withdraw s _)

theorem ownClose_shape (s : State) (handle) : Shape s (ownClose handle s).1 := by
  unfold ownClose
  split
  · exact .refl s
  · rename_i found
    exact .withers (.freeContext (State.resolveHandle_contextAt found))

/-- The events of the other owners than those of OPEN, VERIFY and SEAL. -/
theorem own_shape {i : Instr} {own : State → State × Answer} (h : ownerOf i = some own) (drives : driving i = false)
    (s : State) : Shape s (own s).1 := by
  cases i <;> simp only [ownerOf, Option.some.injEq, reduceCtorEq] at h <;> subst h
  case openTag | verify | sealTag => cases drives
  case close => exact ownClose_shape s _
  case prefetch => exact ownPrefetch_shape s ..
  case stageCommit => exact ownStageCommit_shape s _
  case keyWithdraw => exact ownKeyWithdraw_shape s ..
  case lanes => exact ownLanes_shape s ..
  case serviceOff => exact ownServiceOff_shape s
  all_goals
    simp only [ownQuery, ownPurge, ownCollect, ownStageBegin, ownStageChunk, ownStageAbandon, ownKeyRead, ownRollover,
      ownRollback, ownTime, ownServiceOn, ownConfig, ownSelftest]
    try (repeat' split)
    all_goals exact .stands (by simp) (.of_eq (by simp)) (by simp)

/-- A request is refused or stopped, which leaves the state but for the answer, or its owner takes it. -/
theorem request_cases {i : Instr} {own : State → State × Answer} {s t : State} (h : request i own s = .next t) :
    Withers true s t ∧ t.places = s.places ∧ t.queue = s.queue ∨ s.power = .running ∧ t = (own s).1.answered i (own s).2 := by
  unfold request at h
  split at h
  · split at h <;> cases h
    · exact .inl ⟨.answered .., rfl, rfl⟩
    · exact .inr ⟨‹_›, rfl⟩
  · cases h
    exact .inl ⟨.refl s, rfl, rfl⟩

theorem exec_request_shape {i : Instr} {own : State → State × Answer} (owned : ownerOf i = some own)
    (drives : driving i = false) {s t : State} (h : exec i s = .next t) : Shape s t := by
  by_cases wf : i.wellFormed = true
  · rw [exec_of_ownerOf owned wf] at h
    obtain ⟨withers, -⟩ | ⟨-, rfl⟩ := request_cases h
    · exact .withers withers
    · exact (own_shape owned drives s).answered ..
  · cases i <;> simp only [Instr.wellFormed, ownerOf, reduceCtorEq, not_true_eq_false] at wf owned
    case stageChunk offset bytes =>
      have ill : (Instr.stageChunk offset bytes).wellFormed ≠ true := wf
      simp only [exec, execStageChunk, if_neg ill, event] at h
      split at h <;> cases h <;> exact .stands rfl (.of_eq rfl) rfl

theorem event_shape {effect : State → State} {s t : State} (shape : Shape s (effect s)) (h : event effect s = .next t) :
    Shape s t := by
  unfold event at h
  split at h <;> cases h
  · exact shape
  · exact .refl s

theorem applyPhase_shape (s : State) (r : Rollover) : Shape s (s.applyPhase r) := by
  have ended (v : List Rollover) : Withers true s (s.setRollovers v) := .of_same rfl rfl rfl rfl rfl rfl
  unfold State.applyPhase
  dsimp only
  split
  · exact .stands (by simp) (.of_eq (by simp)) (by simp)
  · exact .withers (((ended _).trans (.withdraw _ _)).trans (.post _ _))

/-- The events that are no requests, the completion of an operation apart. -/
theorem exec_event_shape {i : Instr} (unowned : ownerOf i = none) (drives : driving i = false) {s t : State}
    (h : exec i s = .next t) : Shape s t := by
  have same {u : State} (places : u.places = s.places) (jobs : u.jobs.map atRest = s.jobs.map atRest)
      (next : u.nextSequence = s.nextSequence) : Shape s u := .stands places (.of_eq jobs) next
  cases i <;> simp only [ownerOf, reduceCtorEq] at unowned
  case frameReceived last =>
    refine event_shape ?_ h
    split
    · exact same rfl rfl rfl
    · exact .refl s
  case frameGapTimeout => exact event_shape (effect := fun s => s.setLink s.link.abandon) (same rfl rfl rfl) h
  case byteReceived byte =>
    exact event_shape (effect := fun s => s.setLink (s.link.receive s.report byte)) (same rfl rfl rfl) h
  case replyComplete =>
    refine event_shape ?_ h
    unfold State.replySent
    split
    · exact .clears rfl rfl
    split
    · exact same rfl rfl rfl
    · exact .refl s
    · exact .refl s
  case laneTimeTick => exact event_shape (effect := fun s => s.setClock s.clock.tick) (same rfl rfl rfl) h
  case deadlineEvent index =>
    refine event_shape ?_ h
    unfold State.deadlineEvent
    split
    · split
      · exact .withers (.failContext ..)
      · exact .refl s
    · exact .refl s
  case lingerEnd index =>
    refine event_shape ?_ h
    unfold State.lingerEnd
    split
    · split
      · exact .withers (.freeContext ‹_›)
      · exact .refl s
    · exact .refl s
  case windowEnd =>
    refine event_shape (effect := fun s => if s.endedSlots = [] then s else s.withdraw s.endedSlots) ?_ h
    split
    · exact .refl s
    · exact .withers (.withdraw ..)
  case phaseDue issuer =>
    refine event_shape ?_ h
    unfold State.phaseDue
    split
    · split
      · exact applyPhase_shape s _
      · exact .refl s
    · exact .refl s
  case prefetchExpiry sequence =>
    exact event_shape (effect := fun s => s.cancelJobs (s.expires sequence)) (.withers (.cancelJobs ..)) h
  case thermalReading celsius =>
    refine event_shape (same (by simp) ?_ (by simp)) h
    unfold State.takeReading State.actOnEngine
    dsimp only
    repeat' split
    all_goals simp
  case operationComplete => cases drives
  case selftestEnd fault0 fault1 =>
    refine event_shape (same (by simp) ?_ (by simp)) h
    unfold State.endTest
    split <;> simp
  case powerOn =>
    cases h
    split
    · exact .clears rfl rfl
    · exact .refl s
  case supplyLoss =>
    cases h
    exact .clears rfl rfl
  case resetNLow =>
    cases h
    split
    · exact .refl s
    · exact .clears rfl rfl
  case resetEnd rate1 rate0 =>
    cases h
    split
    · unfold State.endReset
      dsimp only
      split <;> exact .clears rfl rfl
    · exact .refl s
  case zeroize =>
    cases h
    split
    · exact .refl s
    · exact .clears rfl rfl
  case provisioning key =>
    cases h
    exact same rfl rfl rfl

theorem exec_shape {i : Instr} (drives : driving i = false) {s t : State} (h : exec i s = .next t) : Shape s t := by
  cases owned : ownerOf i with
  | none => exact exec_event_shape owned drives h
  | some own => exact exec_request_shape owned drives h

variable {s t : State}

/-! ### What keeps the laws of the table and the queue -/

/-- The context that a job serves. -/
def Serves (s : State) (work : Work) (h : Handle) : Prop :=
  ∃ i c l, s.resolveHandle h = some (i, c) ∧ work.serves = some l ∧ c.state = .live l

/-- A job joins the queue at its tail; a LANE job serves a context that has no other (R113, R115). -/
theorem Working.joined (w : Working s) {j : Job} (sequence : j.sequence = s.nextSequence) (suits : j.suits)
    (serves : ∀ h, j.work.owner = some h → Serves s j.work h ∧ ∀ k ∈ s.jobs, k.work.owner ≠ some h) :
    Working ((s.setJobs (s.jobs ++ [j])).setNextSequence (s.nextSequence + 1)) where
  size := w.size
  named := w.named
  served := by
    intro k mem h owner
    rcases List.mem_append.mp mem with old | new
    · exact w.served k old h owner
    · obtain rfl := List.mem_singleton.mp new
      exact (serves h owner).1
  owners := by
    simp only [State.setNextSequence_jobs, State.setJobs_jobs, List.filterMap_append]
    refine List.nodup_append.mpr ⟨w.owners, ?_, ?_⟩
    · cases owner : j.work.owner <;> simp [owner]
    · intro h old k new same
      subst same
      obtain ⟨x, hx, owned⟩ := List.mem_filterMap.mp old
      obtain ⟨y, hy, owner⟩ := List.mem_filterMap.mp new
      obtain rfl := List.mem_singleton.mp hy
      exact (serves h owner).2 x hx owned
  sequences := by
    simp only [State.setNextSequence_jobs, State.setJobs_jobs, List.map_append]
    refine List.nodup_append.mpr ⟨w.sequences, by simp, ?_⟩
    intro a old b new same
    obtain ⟨x, hx, rfl⟩ := List.mem_map.mp old
    obtain rfl : b = j.sequence := by simpa using new
    exact absurd (w.given x hx) (by omega)
  given := by
    intro k mem
    rcases List.mem_append.mp mem with old | new
    · exact Nat.lt_succ_of_lt (w.given k old)
    · obtain rfl := List.mem_singleton.mp new
      exact sequence ▸ Nat.lt_succ_self _
  suits := by
    intro k mem
    rcases List.mem_append.mp mem with old | new
    · exact w.suits k old
    · exact List.mem_singleton.mp new ▸ suits
  tags := w.tags

theorem Working.placed (w : Working s) {j : Job} (places : t.places = s.places)
    (jobs : t.jobs.map atRest = (s.jobs ++ [j]).map atRest) (sequence : j.sequence = s.nextSequence)
    (next : t.nextSequence = s.nextSequence + 1) (suits : j.suits)
    (serves : ∀ h, j.work.owner = some h → Serves s j.work h ∧ ∀ k ∈ s.jobs, k.work.owner ≠ some h) : Working t :=
  (w.joined sequence suits serves).carried (.of_places places (.of_eq jobs) next)

/-- The handle that finds a context is the context's (R74). -/
theorem handle_of_found (named : Named s.places) {h : Handle} {i : Nat} {c : Context}
    (found : s.resolveHandle h = some (i, c)) : c.handle = h := by
  obtain ⟨index, -, at_i⟩ := State.resolveHandle_eq_some.mp found
  obtain ⟨own, -, use⟩ := named i _ c at_i
  exact handle_eq (own.symm.trans index) use.symm

/-- A context that waits for its tag or for a SEAL has no job (R75, R115). -/
theorem Working.idle (w : Working s) {i : Nat} {c : Context} (at_i : s.contextAt i = some c)
    (waits : c.state = .live .awaitTag ∨ c.state = .live .authenticated) : ∀ j ∈ s.jobs, j.work.owner ≠ some c.handle := by
  intro j mem owner
  obtain ⟨n, d, l, found, serves, state⟩ := w.served j mem c.handle owner
  cases (found_of_named w.named at_i).symm.trans found
  rcases waits with waits | waits <;> cases state.symm.trans waits <;> cases work : j.work <;>
    simp [work, Work.serves] at serves

/-- A new context takes a free index, when no context outside FAILED has its tag (R74, R77). -/
theorem Working.opened (w : Working s) {index use : Nat} (free : s.contextAt index = none) {c : Context}
    (named : index = c.handle.toNat % 64 ∧ index < 48 ∧ use = c.handle.toNat / 64)
    (unblocked : ∀ n d, s.contextAt n = some d → d.isFailed = false → d.issuer = c.issuer → d.serial ≠ c.serial) :
    Working (s.setPlaces (s.places.set index ⟨use, some c⟩)) := by
  have after (n : Nat) (d : Context) (at_n : (s.setPlaces (s.places.set index ⟨use, some c⟩)).contextAt n = some d) :
      (n = index ∧ d = c) ∨ (n ≠ index ∧ s.contextAt n = some d) := by
    simp only [State.contextAt, State.setPlaces_places, List.getElem?_set] at at_n
    split at at_n
    · rename_i same
      split at at_n <;> cases at_n
      exact .inl ⟨same.symm, rfl⟩
    · exact .inr ⟨Ne.symm ‹_›, at_n⟩
  refine ⟨by simpa using w.size, fun n u d at_n => ?_, fun j mem h owner => ?_, w.owners, w.sequences, w.given, w.suits,
    fun m n d e at_m at_n liveD liveE issuer serial => ?_⟩
  · simp only [State.setPlaces_places, List.getElem?_set] at at_n
    split at at_n
    · rename_i same
      split at at_n <;> cases at_n
      exact same ▸ named
    · exact w.named n u d at_n
  · obtain ⟨i, d, l, found, serves, state⟩ := w.served j mem h owner
    have other : index ≠ i := by
      rintro rfl
      cases free.symm.trans (State.resolveHandle_contextAt found)
    obtain ⟨at_h, lt, at_i⟩ := State.resolveHandle_eq_some.mp found
    exact ⟨i, d, l, State.resolveHandle_eq_some.mpr ⟨at_h, lt, (List.getElem?_set_ne other).trans at_i⟩, serves, state⟩
  · obtain ⟨rfl, rfl⟩ | ⟨-, before⟩ := after m d at_m <;> obtain ⟨rfl, rfl⟩ | ⟨-, before'⟩ := after n e at_n
    · rfl
    · exact absurd serial.symm (unblocked n e before' liveE issuer.symm)
    · exact absurd serial (unblocked m d before liveD issuer)
    · exact w.tags m n d e before before' liveD liveE issuer serial

/-- A job changes what it carries and has left to run; its kind, its owner and its place in the queue stay (R114). -/
theorem Working.advanced (w : Working s) {j : Job} (mem : j ∈ s.jobs) {f : Job → Job}
    (owner : (f j).work.owner = j.work.owner) (serves : (f j).work.serves = j.work.serves)
    (sequence : (f j).sequence = j.sequence) (suits : (f j).suits) :
    Working (s.setJobs (updateJob s.jobs j.sequence f)) := by
  rw [Loading.updateJob_of_mem mem w.sequences]
  have changed (k : Job) (hk : k ∈ updateJob s.jobs j.sequence fun _ => f j) : k = f j ∨ k ∈ s.jobs := by
    obtain ⟨x, hx, rfl⟩ := List.mem_map.mp hk
    by_cases same : x.sequence = j.sequence <;> simp [same, hx]
  have unchanged {α : Type} (g : Job → α) (keeps : g (f j) = g j) :
      (updateJob s.jobs j.sequence fun _ => f j).map g = s.jobs.map g := by
    rw [updateJob, List.map_map]
    refine List.map_congr_left fun x hx => ?_
    rw [Function.comp_apply]
    split
    · rename_i same
      rw [List.inj_on_of_nodup_map w.sequences hx mem same, keeps]
    · rfl
  refine ⟨w.size, w.named, fun k hk h owned => ?_, ?_, ?_, fun k hk => ?_, fun k hk => ?_, w.tags⟩
  · rcases changed k hk with rfl | old
    · rw [serves]
      exact w.served j mem h (owner ▸ owned)
    · exact w.served k old h owned
  · have owners := unchanged (·.work.owner) owner
    have both (jobs : List Job) : jobs.filterMap (·.work.owner) = (jobs.map (·.work.owner)).filterMap id := by
      rw [List.filterMap_map]
      rfl
    simpa only [State.setJobs_jobs, both, owners] using w.owners
  · rw [State.setJobs_jobs, unchanged (·.sequence) sequence]
    exact w.sequences
  · rcases changed k hk with rfl | old
    · exact sequence ▸ w.given j mem
    · exact w.given k old
  · rcases changed k hk with rfl | old
    · exact suits
    · exact w.suits k old

theorem Working.cleared (places : t.places = List.replicate 48 Place.fresh) (jobs : t.jobs = []) : Working t := by
  have free (n : Nat) : t.contextAt n = none := by
    simp only [State.contextAt, places, List.getElem?_replicate]
    split <;> rfl
  refine ⟨by simp [places], fun n u c at_n => ?_, by simp [jobs], by simp [jobs], by simp [jobs], by simp [jobs],
    by simp [jobs], fun m n c d at_m => ?_⟩
  · cases (free n).symm.trans (State.contextAt_eq_some.mpr ⟨u, at_n⟩)
  · cases (free m).symm.trans at_m

/-- A command that drives no context on keeps the laws. -/
theorem Working.shaped (w : Working s) (shape : Shape s t) : Working t := by
  cases shape with
  | withers h => exact w.carried h.carries
  | stands places jobs next => exact w.carried (.of_places places jobs next)
  | queues j places jobs sequence next unowned suits =>
    exact w.placed places jobs sequence next suits fun h owner => by cases unowned.symm.trans owner
  | clears places jobs => exact .cleared places jobs

/-! ### OPEN (R74, R77, R78) -/

theorem blockingContext_of_checkOpen {lane issuer serial generation dwell} {p : OpenPlan}
    (passes : s.checkOpen lane issuer serial generation dwell = .ok p) : s.blockingContext issuer serial = none := by
  unfold State.checkOpen at passes
  repeat' split at passes
  all_goals first | assumption | cases passes

/-- The event that places a job at the tail, after changes that leave the table and the queue alone; the arbiter's turn
ends it. -/
theorem Working.places (w : Working s) {u : State} (places : u.places = s.places) (jobs : u.jobs = s.jobs)
    (next : u.nextSequence = s.nextSequence) {work : Work} {operations : List Operation} {time : Nat}
    (suits : Job.suits ⟨work, operations, time, s.nextSequence, false, false⟩)
    (serves : ∀ h, work.owner = some h → Serves s work h ∧ ∀ k ∈ s.jobs, k.work.owner ≠ some h) :
    Working (u.place work operations time).arbitrate :=
  w.placed (j := ⟨work, operations, time, s.nextSequence, false, false⟩) (by simp [places])
    (by rw [place_arbitrate_atRest, jobs, next]) rfl (by rw [place_arbitrate_next, next]) suits serves

/-- A context without a job changes its state and takes a job of the kind of its new state. -/
theorem Working.takes (w : Working s) {i : Nat} {c : Context} (at_i : s.contextAt i = some c)
    (idle : ∀ j ∈ s.jobs, j.work.owner ≠ some c.handle) {f : Context → Context} (remains : Remains c (f c)) {u : State}
    (places : u.places = (s.updateContext i f).places) (jobs : u.jobs = s.jobs) (next : u.nextSequence = s.nextSequence)
    {work : Work} {operations : List Operation} {time : Nat} {l : LiveState}
    (suits : Job.suits ⟨work, operations, time, s.nextSequence, false, false⟩)
    (owner : work.owner = some c.handle) (serves : work.serves = some l) (live : (f c).state = .live l) :
    Working (u.place work operations time).arbitrate := by
  have changed : Working (s.updateContext i f) := by
    refine w.carried (.updateContext s i (fun d at_i' => ?_) fun d at_i' => ?_) <;>
      obtain rfl := Option.some.inj (at_i.symm.trans at_i')
    · exact remains
    · exact .inr idle
  have after : (s.updateContext i f).contextAt i = some (f c) := by
    rw [State.contextAt_updateContext, if_pos rfl, at_i]
    rfl
  refine changed.places places (by simpa using jobs) (by simpa using next) (by simpa using suits) fun h owned => ?_
  obtain rfl := Option.some.inj (owner.symm.trans owned)
  refine ⟨⟨i, f c, l, ?_, serves, live⟩, by simpa using idle⟩
  rw [← remains.handle]
  exact found_of_named changed.named after

theorem suits_openOperations (h : Handle) (issuer : Issuer) (serial : Serial) (nonce challenge : Half)
    (generation : Generation) (p : OpenPlan) (time sequence : Nat) :
    Job.suits ⟨.opening h issuer serial nonce challenge, openOperations generation p, time, sequence, false, false⟩ := by
  unfold openOperations
  split <;> simp [Job.suits]

/-- An OPEN that is taken fills a free index and places a job for its context (R78). -/
theorem ownOpen_working (w : Working s) (lane issuer serial generation nonce dwell) :
    Working (ownOpen lane issuer serial generation nonce dwell s).1 := by
  unfold ownOpen
  split
  · exact w
  rename_i p passes
  dsimp only
  generalize context : s.newContext lane issuer serial generation nonce p = c
  obtain ⟨inside, free, -⟩ := List.findIdx?_eq_some_iff_getElem.mp (freeIndex_of_checkOpen passes)
  obtain ⟨index, use⟩ := nextHandle_parts s (w.size ▸ inside)
  have handle : c.handle = s.nextHandle p.index := by rw [← context]; rfl
  have opening : c.state = .live .opening := by rw [← context]; rfl
  have vacant : s.contextAt p.index = none := by
    simpa [State.contextAt, List.getElem?_eq_getElem inside] using free
  have named : p.index = c.handle.toNat % 64 ∧ p.index < 48 ∧ s.nextUse p.index = c.handle.toNat / 64 :=
    ⟨handle ▸ index.symm, w.size ▸ inside, handle ▸ use.symm⟩
  have opened : Working (s.setPlaces (s.places.set p.index ⟨s.nextUse p.index, some c⟩)) := by
    refine w.opened vacant named fun n d at_n live issuer serial => ?_
    rw [← context] at issuer serial
    have failed := blockingContext_eq_none_iff.mp (blockingContext_of_checkOpen passes) n d at_n issuer serial
    cases failed.symm.trans live
  refine opened.places (by simp) (by simp) (by simp) (suits_openOperations ..) fun h owner => ?_
  obtain rfl : c.handle = h := Option.some.inj owner
  refine ⟨⟨p.index, c, .opening, State.resolveHandle_eq_some.mpr ⟨named.1, named.2.1, ?_⟩, rfl, opening⟩,
    fun j mem owned => ?_⟩
  · rw [State.setPlaces_places, List.getElem?_set_self inside, named.2.2]
  · obtain ⟨n, d, l, found, -⟩ := w.served j mem _ owned
    obtain ⟨at_h, -⟩ := State.resolveHandle_eq_some.mp found
    rw [at_h, ← named.1] at found
    cases vacant.symm.trans (State.resolveHandle_contextAt found)

/-! ### VERIFY and SEAL (R80, R82) -/

/-- A VERIFY is refused, fails its context, or takes it to VERIFYING (R80). -/
theorem ownVerify_cases (s : State) (handle : Handle) (proof : Half) :
    (ownVerify handle proof s).1 = s ∨ (∃ i, (ownVerify handle proof s).1 = s.failContext i .keyWithdrawn false) ∨
    ∃ i c, s.resolveHandle handle = some (i, c) ∧ c.state = .live .awaitTag ∧
      (ownVerify handle proof s).1 = ((s.updateContext i fun c => { c with state := .live .verifying }).place
        (.verifying c.handle proof) [.tagProof] c.deadline).arbitrate := by
  unfold ownVerify
  split
  · exact .inl rfl
  split
  · exact .inl rfl
  rename_i i c found
  split
  · exact .inl rfl
  rename_i state
  split
  · exact .inr (.inl ⟨i, rfl⟩)
  · exact .inr (.inr ⟨i, c, found, not_not.mp state, rfl⟩)

/-- A SEAL is refused, fails its context, or takes it to SEALING (R82). -/
theorem ownSeal_cases (s : State) (handle : Handle) (vehicleClass : Byte) (charge : BitVec 32) (sequence : BitVec 16) :
    (ownSeal handle vehicleClass charge sequence s).1 = s ∨
    (∃ i, (ownSeal handle vehicleClass charge sequence s).1 = s.failContext i .keyWithdrawn false) ∨
    ∃ i c, s.resolveHandle handle = some (i, c) ∧ c.state = .live .authenticated ∧
      (ownSeal handle vehicleClass charge sequence s).1 = s.takeSeal i c (s.sealRecord c vehicleClass charge sequence) := by
  unfold ownSeal
  split
  · exact .inl rfl
  split
  · exact .inl rfl
  rename_i i c found
  split
  · exact .inl rfl
  rename_i state
  split
  · exact .inl rfl
  split
  · exact .inl rfl
  split
  · exact .inr (.inl ⟨i, rfl⟩)
  · exact .inr (.inr ⟨i, c, found, not_not.mp state, rfl⟩)

theorem remains_of_live {c d : Context} {l : LiveState} (live : c.state = .live l) (handle : d.handle = c.handle)
    (issuer : d.issuer = c.issuer) (serial : d.serial = c.serial) : Remains c d :=
  ⟨handle, issuer, serial, fun failed => by simp [Context.isFailed, live] at failed⟩

theorem ownVerify_working (w : Working s) (handle proof) : Working (ownVerify handle proof s).1 := by
  obtain same | ⟨i, failed⟩ | ⟨i, c, found, state, taken⟩ := ownVerify_cases s handle proof
  · rwa [same]
  · rw [failed]
    exact w.carried (Withers.failContext s i _).carries
  · have at_i := State.resolveHandle_contextAt found
    have idle := w.idle at_i (.inl state)
    rw [taken]
    exact w.takes at_i idle (remains_of_live state rfl rfl rfl) rfl (by simp) (by simp) rfl rfl rfl rfl

theorem suits_sealOperations (s : State) (c : Context) (record : SealRecord) (time sequence : Nat) :
    Job.suits ⟨.sealing c.handle record none, s.sealOperations c, time, sequence, false, false⟩ := by
  unfold State.sealOperations
  split <;> simp [Job.suits]

theorem ownSeal_working (w : Working s) (handle vehicleClass charge sequence) :
    Working (ownSeal handle vehicleClass charge sequence s).1 := by
  obtain same | ⟨i, failed⟩ | ⟨i, c, found, state, taken⟩ := ownSeal_cases s handle vehicleClass charge sequence
  · rwa [same]
  · rw [failed]
    exact w.carried (Withers.failContext s i _).carries
  · have at_i := State.resolveHandle_contextAt found
    have idle := w.idle at_i (.inr state)
    rw [taken]
    exact w.takes at_i idle
      (f := fun c' => { c' with state := .live .sealing, reserved := (s.sealOperations c).length })
      (remains_of_live state rfl rfl rfl) (by simp [updateContext_places]) (by simp) (by simp)
      (suits_sealOperations s c _ c.deadline s.nextSequence) rfl rfl rfl

/-! ### The completion of an operation (R119) -/

/-- What an OPERATION_COMPLETE does: it ends the last operation of a job that the unit runs, or another of its operations, or
it only frees the unit, or it has no effect. -/
theorem operationComplete_cases (running : s.power = .running) (distinct : (s.jobs.map (·.sequence)).Nodup)
    (name : UnitName) :
    (State.operationComplete name s = s ∨ State.operationComplete name s = (s.freeUnit name).arbitrate) ∨
    ∃ masterKey j op rest, s.runs name masterKey j ∧ j.operations = op :: rest ∧
      State.operationComplete name s =
        if rest = [] then s.lastOperation name j op masterKey else s.middleOperation name j op rest masterKey := by
  cases activity : (s.unit name).activity with
  | free => exact .inl (.inl (Caching.operationComplete_idle (.inl activity)))
  | testing => exact .inl (.inl (Caching.operationComplete_idle (.inr activity)))
  | running sequence masterKey =>
    cases found : findJob s.jobs sequence with
    | none => exact .inl (.inr (by simp [State.operationComplete, activity, found]))
    | some j =>
      have mem := List.mem_of_find?_eq_some found
      obtain rfl : j.sequence = sequence := by simpa using List.find?_some found
      have runs : s.runs name masterKey j := ⟨running, activity, mem, distinct⟩
      cases operations : j.operations with
      | nil => exact .inl (.inr (by simp [State.operationComplete, activity, found, operations]))
      | cons op rest =>
        refine .inr ⟨masterKey, j, op, rest, runs, operations, ?_⟩
        cases rest with
        | nil => exact operationComplete_last runs operations
        | cons next rest => exact operationComplete_middle runs operations

/-- What the completion of an operation, with some left to run after it, hands to the table (R119). -/
inductive Handed (s : State) (work : Work) (op : Operation) (rest : List Operation) (u : State) : Prop
  | aside (places : u.places = s.places)
  | spends (i : Nat) (places : u.places = (s.updateContext i Context.spend).places)
  | proves (h : Handle) (i : Nat) (c : Context) (found : s.resolveHandle h = some (i, c)) (owner : work.owner = some h)
      (state : c.state = .live .opening) (last : rest = [])
      (places : u.places = (s.updateContext i fun c => { c.spend with state := .live .awaitTag }).places)
  | authenticates (h : Handle) (proof : Half) (i : Nat) (c : Context) (found : s.resolveHandle h = some (i, c))
      (is : work = .verifying h proof) (state : c.state = .live .verifying) (tag : op = .tagProof) (last : rest = [])
      (matched : tagProofOf (pinnedKey s.cache h .auth) c.nonce c.challenge = proof)
      (places : u.places = (s.updateContext i fun c => { c.spend with state := .live .authenticated }).places)
  | mismatches (i : Nat) (last : rest = []) (fails : u = s.failContext i .authMismatch true)
  | seals (h : Handle) (r : SealRecord) (first : Option Block) (i : Nat) (c : Context)
      (found : s.resolveHandle h = some (i, c)) (is : work = .sealing h r first) (state : c.state = .live .sealing)
      (second : op = .sealSecond) (last : rest = [])
      (places : u.places = (s.updateContext i fun c =>
        { c with state := .sealed r.stamp (sealOf (pinnedKey s.cache h .seal) (first.getD 0) r), reserved := 0 }).places)

/-- A derivation of a LANE job spends an operation of its context and inserts an entry (R61, R102). -/
theorem handed_laneDerivation {h : Handle} {i : Nat} {c : Context} (found : s.resolveHandle h = some (i, c))
    (role : Role) (generation : Generation) (slot : Nat) (epoch : Epoch) (masterKey : Option Key) (work : Work)
    (rest : List Operation) :
    Handed s work (.derive role generation slot epoch) rest
      (s.laneDerivation h (.derive role generation slot epoch) masterKey) := by
  refine .spends i ?_
  rw [laneDerivation_of_found found]
  simp [updateContext_places]

theorem handOver_handed {j : Job} (suits : j.suits) (served : ∀ h, j.work.owner = some h → Serves s j.work h)
    {op : Operation} {rest : List Operation} (operations : j.operations = op :: rest) (masterKey : Option Key) :
    Handed s j.work op rest (s.handOver j.work op masterKey) := by
  unfold Job.suits at suits
  rw [operations] at suits
  cases work : j.work with
  | opening h issuer serial nonce challenge =>
    rw [work] at suits served
    obtain ⟨i, c, l, found, serves, state⟩ := served h rfl
    cases serves
    rcases suits with ⟨g, slot, e, same⟩ | same <;> cases same
    · exact handed_laneDerivation found ..
    · refine .proves h i c found rfl state rfl ?_
      simp [State.handOver, finishProof_of_found found, updateContext_places]
  | verifying h proof =>
    rw [work] at suits served
    cases suits
    obtain ⟨i, c, l, found, serves, state⟩ := served h rfl
    cases serves
    by_cases matched : tagProofOf (pinnedKey s.cache h .auth) c.nonce c.challenge = proof
    · refine .authenticates h proof i c found rfl state rfl rfl matched ?_
      simp [State.handOver, finishTagProof_of_match found matched, updateContext_places]
    · exact .mismatches i rfl (finishTagProof_of_difference found matched)
  | sealing h r first =>
    rw [work] at suits served
    obtain ⟨i, c, l, found, serves, state⟩ := served h rfl
    cases serves
    rcases suits with ⟨g, slot, e, same⟩ | same | same <;> cases same
    · exact handed_laneDerivation found ..
    · exact .spends i (by simp [State.handOver, finishSealFirst_of_found found])
    · refine .seals h r first i c found rfl state rfl rfl ?_
      simp [State.handOver, finishSeal_of_found found, updateContext_places]
  | keyset l keys results => exact .aside rfl
  | prefetch issuer serial => exact .aside (by cases op <;> simp [State.handOver, State.prefetchDerivation])

/-- A hand-over ends no job but that of a context that fails (R84). -/
theorem handOver_within (s : State) (work : Work) (op : Operation) (masterKey : Option Key) :
    JobsWithin (s.handOver work op masterKey).jobs s.jobs := by
  cases work with
  | verifying h proof =>
    simp only [State.handOver, State.finishTagProof, State.forOwner]
    split
    · split
      · exact .of_eq (by simp)
      · exact (Withers.failContext (posted := true) s _ _).jobs
    · exact .of_eq rfl
  | opening | sealing | keyset | prefetch => exact .of_eq (by rw [handOver_jobs (by simp)])

theorem remains_spend (c : Context) : Remains c c.spend := ⟨rfl, rfl, rfl, id⟩

/-- A hand-over carries the contexts, when the job has left the queue with its last operation. -/
theorem Handed.carries {work : Work} {op : Operation} {rest : List Operation} {u : State} (handed : Handed s work op rest u)
    (w : Working s) (jobs : JobsWithin u.jobs s.jobs) (next : u.nextSequence = s.nextSequence)
    (ended : rest = [] → ∀ h, work.owner = some h → ∀ j ∈ s.jobs, j.work.owner ≠ some h) : Carries s u := by
  have changed {h : Handle} {i : Nat} {c : Context} {l : LiveState} (found : s.resolveHandle h = some (i, c))
      (owner : work.owner = some h) (last : rest = []) (state : c.state = .live l) {f : Context → Context}
      (handle : (f c).handle = c.handle) (issuer : (f c).issuer = c.issuer) (serial : (f c).serial = c.serial)
      (places : u.places = (s.updateContext i f).places) : Carries s u := by
    have at_i := State.resolveHandle_contextAt found
    refine (Carries.updateContext s i (fun d at_i' => ?_) fun d at_i' => ?_).trans (.of_places places (by simpa using jobs)
      (by simpa using next)) <;> obtain rfl := Option.some.inj (at_i.symm.trans at_i')
    · exact remains_of_live state handle issuer serial
    · exact .inr (handle_of_found w.named found ▸ ended last h owner)
  cases handed with
  | aside places => exact .of_places places jobs next
  | spends i places =>
    exact (Carries.updateContext s i (fun c _ => remains_spend c) fun _ _ => .inl rfl).trans
      (.of_places places (by simpa using jobs) (by simpa using next))
  | proves h i c found owner state last places => exact changed found owner last state rfl rfl rfl places
  | authenticates h proof i c found is state tag last matched places =>
    exact changed found (is ▸ rfl) last state rfl rfl rfl places
  | mismatches i last fails => exact fails ▸ (Withers.failContext (posted := true) s i .authMismatch).carries
  | seals h r first i c found is state second last places => exact changed found (is ▸ rfl) last state rfl rfl rfl places

/-- When a job has left the queue, its context has none (R115). -/
theorem Working.unowned_endJob (w : Working s) {j : Job} (mem : j ∈ s.jobs) {h : Handle} (owner : j.work.owner = some h) :
    ∀ k ∈ (s.endJob j.sequence).jobs, k.work.owner ≠ some h := by
  intro k hk owner'
  obtain ⟨old, other⟩ : k ∈ s.jobs ∧ k.sequence ≠ j.sequence := by simpa [State.endJob] using hk
  have apart := List.pairwise_filterMap.mp w.owners
  have symm : Std.Symm fun a b : Job => ∀ x, a.work.owner = some x → ∀ y, b.work.owner = some y → x ≠ y :=
    ⟨fun a b ab x hx y hy => (ab y hy x hx).symm⟩
  have ne : k ≠ j := fun same => other (congrArg Job.sequence same)
  exact apart.forall old mem ne h owner' h owner rfl

/-- The operations that a job has left suit its kind (R114). -/
theorem suits_advanceJob {j : Job} (suits : j.suits) {op next : Operation} {rest : List Operation}
    (operations : j.operations = op :: next :: rest) : (s.advanceJob op j).suits := by
  unfold Job.suits at suits
  cases work : j.work <;> simp only [work, operations] at suits <;>
    simp only [State.advanceJob, work, operations, List.tail_cons]
  case opening =>
    rcases suits with ⟨g, slot, e, same⟩ | same <;> cases same
    exact .inr rfl
  case verifying => cases suits
  case sealing =>
    rcases suits with ⟨g, slot, e, same⟩ | same | same <;> cases same
    · exact .inr (.inl rfl)
    · exact .inr (.inr rfl)
  case keyset => cases op <;> trivial
  case prefetch =>
    obtain ⟨-, short, derives⟩ := suits
    have shorter : (next :: rest).length ≤ 2 := Nat.le_of_succ_le short
    exact ⟨List.cons_ne_nil _ _, shorter, fun op' mem => derives op' (List.mem_cons_of_mem _ mem)⟩

/-- Two changes of a job that differ in the arbiter's marks. -/
theorem updateJob_congr (jobs : List Job) (sequence : Nat) {f g : Job → Job} (marks : ∀ j, atRest (f j) = atRest (g j)) :
    (updateJob jobs sequence f).map atRest = (updateJob jobs sequence g).map atRest := by
  rw [updateJob, updateJob, List.map_map, List.map_map]
  refine List.map_congr_left fun j _ => ?_
  rw [Function.comp_apply, Function.comp_apply]
  split
  · exact marks j
  · rfl

theorem lastOperation_working (w : Working s) {name : UnitName} {masterKey : Option Key} {j : Job}
    (runs : s.runs name masterKey j) {op : Operation} (operations : j.operations = [op]) :
    Working (s.lastOperation name j op masterKey) := by
  obtain ⟨-, -, mem, -⟩ := runs
  have ended : Working (s.endJob j.sequence) :=
    w.carried (.of_places rfl (.of_sublist List.filter_sublist) rfl)
  have handed := handOver_handed (s := s.endJob j.sequence) (w.suits j mem) (w.served j mem) operations masterKey
  have carries := handed.carries ended (handOver_within ..) (by simp) fun _ h owner => w.unowned_endJob mem owner
  exact (ended.carried carries).carried (.of_places (by simp [State.lastOperation, State.endJob])
    (.of_eq (by simp [State.lastOperation, State.endJob])) (by simp [State.lastOperation, State.endJob]))

theorem middleOperation_working (w : Working s) {name : UnitName} {masterKey : Option Key} {j : Job}
    (runs : s.runs name masterKey j) {op next : Operation} {rest : List Operation}
    (operations : j.operations = op :: next :: rest) :
    Working (s.middleOperation name j op (next :: rest) masterKey) := by
  obtain ⟨-, -, mem, -⟩ := runs
  have suits := w.suits j mem
  have handed := handOver_handed suits (w.served j mem) operations masterKey
  have same := handOver_jobs (s := s) (not_verifying_of_suits suits operations) op masterKey
  have carried : Working (s.handOver j.work op masterKey) :=
    w.carried (handed.carries w (handOver_within ..) (by simp) nofun)
  have advanced := carried.advanced (j := j) (f := s.advanceJob op) (same ▸ mem) (workAfter_owner ..)
    (workAfter_serves ..) rfl (suits_advanceJob suits operations)
  unfold State.middleOperation
  dsimp only
  split
  · exact advanced.carried (.of_places (by simp) (.of_eq (by simp)) (by simp))
  · refine advanced.carried (.of_places (by simp) (.of_eq ?_) (by simp))
    simp only [arbitrate_atRest, State.freeUnit_keeps, State.setJobs_jobs]
    exact updateJob_congr _ _ fun _ => rfl

theorem operationComplete_working (w : Working s) (running : s.power = .running) (name : UnitName) :
    Working (State.operationComplete name s) := by
  obtain (idle | freed) | ⟨masterKey, j, op, rest, runs, operations, outcome⟩ :=
    operationComplete_cases running w.sequences name
  · rwa [idle]
  · rw [freed]
    exact w.carried ((Withers.freeUnit (posted := true) s name).trans (.arbitrate _)).carries
  · rw [outcome]
    cases rest with
    | nil => exact lastOperation_working w runs operations
    | cons next rest => exact middleOperation_working w runs operations

/-! ### Every step keeps the laws -/

theorem exec_working (w : Working s) {i : Instr} (h : exec i s = .next t) : Working t := by
  have request {own : State → State × Answer} (own_working : Working (own s).1) (h : request i own s = .next t) :
      Working t := by
    obtain ⟨withers, -⟩ | ⟨-, rfl⟩ := request_cases h
    · exact w.carried withers.carries
    · exact own_working.carried (Withers.answered (posted := true) _ _ _).carries
  cases drives : driving i with
  | false => exact w.shaped (exec_shape drives h)
  | true =>
    cases i <;> simp only [driving, Bool.false_eq_true] at drives
    case openTag => exact request (ownOpen_working w ..) h
    case verify => exact request (ownVerify_working w ..) h
    case sealTag => exact request (ownSeal_working w ..) h
    case operationComplete name =>
      simp only [exec, execOperationComplete, event] at h
      split at h <;> cases h
      · exact operationComplete_working w ‹_› name
      · exact w

/-- Settles O53: a command that drives no context on lets contexts wither, leaves the table or clears it (`Shape`); an OPEN, a
VERIFY or a SEAL places the one job of its context; a completed operation carries the contexts (`Handed`). -/
theorem workQueueLawsAreKept : Obligations.WorkQueueLawsAreKept := by
  intro s t work tags h
  have w : Working s := (working_iff s).mpr ⟨work, tags⟩
  refine (working_iff t).mp ?_
  rcases step_cases s with ⟨-, idle⟩ | ⟨i, rest, -, runs⟩
  · cases idle.symm.trans h
    exact w
  · have dequeued : Working (s.setPending rest) := w.carried (.of_places rfl (.of_eq rfl) rfl)
    exact exec_working dequeued (runs.symm.trans h)

variable {n : Nat} {c d : Context}

/-! ### The contexts after a command that drives one on -/

theorem contextAt_congr (places : t.places = s.places) (n : Nat) : t.contextAt n = s.contextAt n := by
  rw [State.contextAt, places, State.contextAt]

theorem resolveHandle_congr (places : t.places = s.places) (h : Handle) : t.resolveHandle h = s.resolveHandle h := by
  simp [State.resolveHandle, places]

/-- After a change of one context, a context is that one or stood before. -/
theorem contextAt_of_update {i : Nat} {f : Context → Context} (places : t.places = (s.updateContext i f).places)
    (after : t.contextAt n = some d) :
    (n = i ∧ ∃ c, s.contextAt n = some c ∧ d = f c) ∨ s.contextAt n = some d := by
  rw [contextAt_congr places, State.contextAt_updateContext] at after
  split at after
  · rename_i same
    obtain ⟨c, before, rfl⟩ := Option.map_eq_some_iff.mp after
    exact .inl ⟨same.symm, c, before, rfl⟩
  · exact .inr after

theorem takeOpen_places (s : State) (c : Context) (p : OpenPlan) :
    (s.takeOpen c p).places = s.places.set p.index ⟨s.nextUse p.index, some c⟩ := by
  simp [State.takeOpen]

theorem takeSeal_places (s : State) (i : Nat) (c : Context) (record : SealRecord) :
    (s.takeSeal i c record).places = (s.updateContext i fun d =>
      { d with state := .live .sealing, reserved := (s.sealOperations c).length }).places := by
  simp [State.takeSeal, updateContext_places]

/-- After an OPEN a context is the new one, which is OPENING, or stood before (R78). -/
theorem contextAt_of_ownOpen {lane issuer serial generation nonce dwell}
    (after : (ownOpen lane issuer serial generation nonce dwell s).1.contextAt n = some d) :
    d.state = .live .opening ∨ s.contextAt n = some d := by
  unfold ownOpen at after
  split at after
  · exact .inr after
  · simp only [State.contextAt, takeOpen_places, List.getElem?_set] at after
    split at after
    · split at after <;> cases after
      exact .inl rfl
    · exact .inr after

theorem lastOperation_places (s : State) (name : UnitName) (j : Job) (op : Operation) (masterKey : Option Key) :
    (s.lastOperation name j op masterKey).places = ((s.endJob j.sequence).handOver j.work op masterKey).places := by
  simp [State.lastOperation, State.endJob]

theorem middleOperation_places (s : State) (name : UnitName) (j : Job) (op : Operation) (rest : List Operation)
    (masterKey : Option Key) :
    (s.middleOperation name j op rest masterKey).places = (s.handOver j.work op masterKey).places := by
  unfold State.middleOperation
  dsimp only
  split <;> simp

theorem Withers.endKeyset (s : State) (work : Work) : Withers true s (s.endKeyset work) := by
  have ended (v : Stager) : Withers true s (s.setStager v) := .of_same rfl rfl rfl rfl rfl rfl
  have installed (v : Stager) (slots : List Slot) : Withers true s ((s.setStager v).setSlots slots) :=
    .of_same rfl rfl rfl rfl rfl rfl
  cases work with
  | keyset l keys results =>
    simp only [State.endKeyset, State.completeCommit]
    split
    · exact (ended _).trans (.post ..)
    split
    · exact (installed _ _).trans (.post ..)
    · exact (ended _).trans (.post ..)
  | opening | verifying | sealing | prefetch => exact .refl s

/-- The table after the completion of an operation of a job is the one that its hand-over leaves. With the last operation the
job leaves the queue before it, and only the commit's end and the arbiter's turn follow (R119). -/
theorem operationComplete_handed (work : s.workLawful) {name : UnitName} {masterKey : Option Key} {j : Job}
    (runs : s.runs name masterKey j) {op : Operation} {rest : List Operation} (operations : j.operations = op :: rest) :
    ∃ v u, v.places = s.places ∧ v.cache = s.cache ∧ Handed v j.work op rest u ∧
      (State.operationComplete name s).places = u.places ∧
      (rest = [] → Withers true s v ∧ Withers true u (State.operationComplete name s)) := by
  obtain ⟨-, -, mem, -⟩ := id runs
  obtain ⟨-, -, served, -, -, -, suits⟩ := work
  cases rest with
  | nil =>
    have ended : Withers true s (s.endJob j.sequence) :=
      .of_places rfl (.of_sublist List.filter_sublist) rfl (fun e he _ pin => ⟨e, he, pin⟩) (fun _ => id) id Iff.rfl
    refine ⟨s.endJob j.sequence, _, rfl, rfl,
      handOver_handed (s := s.endJob j.sequence) (suits j mem) (served j mem) operations masterKey, ?_, fun _ => ⟨ended, ?_⟩⟩
    · rw [operationComplete_last runs operations, lastOperation_places]
    · rw [operationComplete_last runs operations]
      exact ((Withers.endKeyset _ _).trans (.freeUnit _ name)).trans (.arbitrate _)
  | cons next rest =>
    refine ⟨s, _, rfl, rfl, handOver_handed (suits j mem) (served j mem) operations masterKey, ?_, nofun⟩
    rw [operationComplete_middle runs operations, middleOperation_places]

/-! ### The way to SEALED (R75) -/

/-- A state before the tag is authenticated, or FAILED. -/
def Early (state : ContextState) : Prop :=
  (∀ stamp x, state ≠ .sealed stamp x) ∧ state ≠ .live .sealing ∧ state ≠ .live .authenticated

/-- A context of the second state is in an early state, or stood in its state before. -/
def Stood (s : State) (n : Nat) (d : Context) : Prop :=
  Early d.state ∨ ∃ c, s.contextAt n = some c ∧ c.handle = d.handle ∧ c.state = d.state

/-- How a context may have come to SEALED, SEALING and AUTHENTICATED by a command (R75). -/
def Earned (s : State) (i : Instr) (n : Nat) (d : Context) : Prop :=
  (∀ stamp x, d.state = .sealed stamp x → ∃ c, s.contextAt n = some c ∧ c.handle = d.handle ∧
    (c.state = d.state ∨ (c.state = .live .sealing ∧ ∃ name masterKey j r first, i = .operationComplete name ∧
      s.runs name masterKey j ∧ j.work = .sealing c.handle r first ∧ j.operations = [.sealSecond] ∧ stamp = r.stamp ∧
      x = firstHalf (encipher (pinnedKey s.cache c.handle .seal) (first.getD 0 ^^^ sealBlock2 r))))) ∧
  (d.state = .live .sealing → ∃ c, s.contextAt n = some c ∧ c.handle = d.handle ∧
    (c.state = d.state ∨ (c.state = .live .authenticated ∧ ∃ v m q, i = .sealTag d.handle v m q))) ∧
  (d.state = .live .authenticated → ∃ c, s.contextAt n = some c ∧ c.handle = d.handle ∧
    (c.state = d.state ∨ (c.state = .live .verifying ∧ ∃ name masterKey j proof, i = .operationComplete name ∧
      s.runs name masterKey j ∧ j.work = .verifying c.handle proof ∧ j.operations = [.tagProof] ∧
      lastHalf (encipher (pinnedKey s.cache c.handle .auth) (c.challenge ++ c.nonce)) = proof)))

theorem Stood.of_before (before : s.contextAt n = some d) : Stood s n d := .inr ⟨d, before, rfl, rfl⟩

theorem Stood.earned (stood : Stood s n d) (i : Instr) : Earned s i n d := by
  obtain ⟨notSealed, notSealing, notAuthenticated⟩ | ⟨c, before, handle, state⟩ := stood
  · exact ⟨fun stamp x sealed => absurd sealed (notSealed stamp x), fun sealing => absurd sealing notSealing,
      fun authenticated => absurd authenticated notAuthenticated⟩
  · exact ⟨fun _ _ _ => ⟨c, before, handle, .inl state⟩, fun _ => ⟨c, before, handle, .inl state⟩,
      fun _ => ⟨c, before, handle, .inl state⟩⟩

theorem early_failed (reason : FailReason) (l : LiveState) : Early (.failed reason l) := by simp [Early]

theorem early_live {l : LiveState} (sealing : l ≠ .sealing) (authenticated : l ≠ .authenticated) : Early (.live l) := by
  simp [Early, sealing, authenticated]

theorem Withers.stood {posted : Bool} (h : Withers posted s t) (after : t.contextAt n = some d) : Stood s n d := by
  cases before : s.contextAt n with
  | none => cases after.symm.trans (h.free n before)
  | some c =>
    cases h.fate n c before with
    | stays a b after' =>
      cases after.symm.trans after'
      exact .inr ⟨c, before, rfl, rfl⟩
    | fails l reason a b live after' =>
      cases after.symm.trans after'
      exact .inl (early_failed reason l)
    | goes after' => cases after.symm.trans after'

theorem Shape.stood (shape : Shape s t) (after : t.contextAt n = some d) : Stood s n d := by
  cases shape with
  | withers h => exact h.stood after
  | stands places => exact .of_before (contextAt_congr places n ▸ after)
  | queues j places => exact .of_before (contextAt_congr places n ▸ after)
  | clears places =>
    simp only [State.contextAt, places, List.getElem?_replicate] at after
    split at after <;> cases after

/-- One context changes, to an early state or within its state. -/
theorem Stood.of_update {i : Nat} {f : Context → Context} (places : t.places = (s.updateContext i f).places)
    (changes : ∀ c, s.contextAt i = some c → Early (f c).state ∨ (f c).handle = c.handle ∧ (f c).state = c.state)
    (after : t.contextAt n = some d) : Stood s n d := by
  obtain ⟨rfl, c, before, rfl⟩ | before := contextAt_of_update places after
  · exact (changes c before).imp id fun ⟨handle, state⟩ => ⟨c, before, handle.symm, state.symm⟩
  · exact .of_before before

theorem ownOpen_stood {lane issuer serial generation nonce dwell}
    (after : (ownOpen lane issuer serial generation nonce dwell s).1.contextAt n = some d) : Stood s n d := by
  obtain opening | before := contextAt_of_ownOpen after
  · exact .inl (opening ▸ early_live nofun nofun)
  · exact .of_before before

theorem ownVerify_stood {handle proof} (after : (ownVerify handle proof s).1.contextAt n = some d) : Stood s n d := by
  obtain same | ⟨i, failed⟩ | ⟨i, c, found, state, taken⟩ := ownVerify_cases s handle proof
  · exact .of_before (same ▸ after)
  · exact (Withers.failContext s i .keyWithdrawn).stood (failed ▸ after)
  · rw [taken] at after
    exact .of_update (i := i) (f := fun c => { c with state := .live .verifying }) (by simp)
      (fun c _ => .inl (early_live nofun nofun)) after

theorem ownSeal_earned (named : Named s.places) {handle vehicleClass charge sequence}
    (after : (ownSeal handle vehicleClass charge sequence s).1.contextAt n = some d) :
    Earned s (.sealTag handle vehicleClass charge sequence) n d := by
  obtain same | ⟨i, failed⟩ | ⟨i, c, found, state, taken⟩ := ownSeal_cases s handle vehicleClass charge sequence
  · exact (Stood.of_before (same ▸ after)).earned _
  · exact ((Withers.failContext s i .keyWithdrawn).stood (failed ▸ after)).earned _
  · rw [taken] at after
    obtain ⟨rfl, c', before, rfl⟩ | before := contextAt_of_update (takeSeal_places ..) after
    · obtain rfl := Option.some.inj ((State.resolveHandle_contextAt found).symm.trans before)
      have own := handle_of_found named found
      exact ⟨nofun, fun _ => ⟨c, before, rfl, .inr ⟨state, vehicleClass, charge, sequence, by rw [own]⟩⟩, nofun⟩
    · exact (Stood.of_before before).earned _

/-- A completed operation takes a context to AUTHENTICATED or SEALED only as the last of its own job. -/
theorem operationComplete_earned (work : s.workLawful) (running : s.power = .running) {name : UnitName}
    (after : (State.operationComplete name s).contextAt n = some d) : Earned s (.operationComplete name) n d := by
  have named := named_of_workLawful work
  obtain ⟨-, -, -, -, distinct, -⟩ := id work
  obtain (idle | freed) | ⟨masterKey, j, op, rest, runs, operations, -⟩ := operationComplete_cases running distinct name
  · exact (Stood.of_before (idle ▸ after)).earned _
  · rw [freed, contextAt_congr (s := s) (by simp)] at after
    exact (Stood.of_before after).earned _
  obtain ⟨v, u, places, cache, handed, result, -⟩ := operationComplete_handed work runs operations
  have update {f : Context → Context} {i : Nat} (changed : u.places = (v.updateContext i f).places) :
      (State.operationComplete name s).places = (s.updateContext i f).places := by
    rw [result, changed, updateContext_places, updateContext_places, places]
  cases handed with
  | aside same => exact (Stood.of_before (contextAt_congr (result.trans (same.trans places)) n ▸ after)).earned _
  | spends i changed => exact (Stood.of_update (update changed) (fun c _ => .inr ⟨rfl, rfl⟩) after).earned _
  | proves h i c _ _ _ _ changed =>
    exact (Stood.of_update (update changed) (fun c _ => .inl (early_live nofun nofun)) after).earned _
  | mismatches i _ fails =>
    rw [contextAt_congr result, fails] at after
    obtain early | ⟨c, before, same⟩ := (Withers.failContext (posted := true) v i .authMismatch).stood after
    · exact Stood.earned (.inl early) _
    · exact Stood.earned (.inr ⟨c, contextAt_congr places n ▸ before, same⟩) _
  | authenticates h proof i c found is state tag last matched changed =>
    rw [resolveHandle_congr places] at found
    rw [cache] at matched
    obtain ⟨rfl, c', before, rfl⟩ | before := contextAt_of_update (update changed) after
    · obtain rfl := Option.some.inj ((State.resolveHandle_contextAt found).symm.trans before)
      obtain rfl := handle_of_found named found
      exact ⟨nofun, nofun, fun _ => ⟨c, before, rfl, .inr ⟨state, name, masterKey, j, proof, rfl, runs, is,
        by rw [operations, tag, last], matched⟩⟩⟩
    · exact (Stood.of_before before).earned _
  | seals h r first i c found is state second last changed =>
    rw [resolveHandle_congr places] at found
    rw [cache] at changed
    obtain ⟨rfl, c', before, rfl⟩ | before := contextAt_of_update (update changed) after
    · obtain rfl := Option.some.inj ((State.resolveHandle_contextAt found).symm.trans before)
      obtain rfl := handle_of_found named found
      refine ⟨fun stamp x sealed => ⟨c, before, rfl, .inr ⟨state, name, masterKey, j, r, first, rfl, runs, is,
        by rw [operations, second, last], ?_⟩⟩, nofun, nofun⟩
      obtain ⟨rfl, rfl⟩ : r.stamp = stamp ∧ _ = x := by simpa using sealed
      exact ⟨rfl, rfl⟩
    · exact (Stood.of_before before).earned _

/-- Settles O58: of the commands only a SEAL and the last operations of a VERIFY and of a SEAL job take a context to one of
the three states. -/
theorem sealedOnlyAfterAMatchingProof : Obligations.SealedOnlyAfterAMatchingProof := by
  intro s t i n d work h after
  show Earned s i n d
  have request {own : State → State × Answer} (own_earned : ∀ {d}, (own s).1.contextAt n = some d → Earned s i n d)
      (h : request i own s = .next t) : Earned s i n d := by
    obtain ⟨withers, -⟩ | ⟨-, rfl⟩ := request_cases h
    · exact (withers.stood after).earned i
    · exact own_earned after
  cases drives : driving i with
  | false => exact ((exec_shape drives h).stood after).earned i
  | true =>
    cases i <;> simp only [driving, Bool.false_eq_true] at drives
    case openTag => exact request (fun after => (ownOpen_stood after).earned _) h
    case verify => exact request (fun after => (ownVerify_stood after).earned _) h
    case sealTag => exact request (ownSeal_earned (named_of_workLawful work)) h
    case operationComplete name =>
      simp only [exec, execOperationComplete, event] at h
      split at h <;> cases h
      · exact operationComplete_earned work ‹_› after
      · exact (Stood.of_before after).earned _

/-! ### Every change to FAILED (R84) -/

/-- The requests whose refusal fails a context without a record (R80, R82). -/
def refusing : Instr → Bool
  | .verify _ _ => true
  | .sealTag _ _ _ _ => true
  | _ => false

/-- A context was live and is FAILED. -/
structure Fell (s t : State) (n : Nat) (c d : Context) (l m : LiveState) (reason : FailReason) : Prop where
  before : s.contextAt n = some c
  live : c.state = .live l
  after : t.contextAt n = some d
  failed : d.state = .failed reason m

section
variable {l m : LiveState} {reason : FailReason} (fell : Fell s t n c d l m reason)
include fell

/-- No context falls where the table stands. -/
theorem Fell.not_stands (places : t.places = s.places) : False := by
  obtain ⟨before, live, after, failed⟩ := fell
  cases (contextAt_congr places n ▸ after).symm.trans before
  cases live.symm.trans failed

/-- No context falls where one goes on to another state than FAILED. -/
theorem Fell.not_update {i : Nat} {f : Context → Context} (places : t.places = (s.updateContext i f).places)
    (keeps : ∀ c l, c.state = .live l → ∀ reason m, (f c).state ≠ .failed reason m) : False := by
  obtain ⟨before, live, after, failed⟩ := fell
  obtain ⟨rfl, c', before', rfl⟩ | before' := contextAt_of_update places after
  · cases before.symm.trans before'
    exact keeps c l live reason m failed
  · cases before.symm.trans before'
    cases live.symm.trans failed

theorem Shape.of_fell (shape : Shape s t) : Withers true s t := by
  cases shape with
  | withers h => exact h
  | stands places => exact (fell.not_stands places).elim
  | queues j places => exact (fell.not_stands places).elim
  | clears places =>
    have after := fell.after
    simp only [State.contextAt, places, List.getElem?_replicate] at after
    split at after <;> cases after

end

/-- Of the completed operations only the last of a VERIFY job can fail a context (R81). -/
theorem operationComplete_of_fell (work : s.workLawful) (running : s.power = .running) {name : UnitName} {l m : LiveState}
    {reason : FailReason} (fell : Fell s (State.operationComplete name s) n c d l m reason) :
    Withers true s (State.operationComplete name s) := by
  obtain ⟨-, -, -, -, distinct, -⟩ := id work
  obtain (idle | freed) | ⟨masterKey, j, op, rest, runs, operations, -⟩ := operationComplete_cases running distinct name
  · rw [idle]
    exact .refl s
  · rw [freed]
    exact (Withers.freeUnit s name).trans (.arbitrate _)
  obtain ⟨v, u, places, -, handed, result, last⟩ := operationComplete_handed work runs operations
  have update {f : Context → Context} {i : Nat} (changed : u.places = (v.updateContext i f).places) :
      (State.operationComplete name s).places = (s.updateContext i f).places := by
    rw [result, changed, updateContext_places, updateContext_places, places]
  cases handed with
  | aside same => exact (fell.not_stands (result.trans (same.trans places))).elim
  | spends i changed =>
    exact (fell.not_update (update changed) fun c l live reason m failed => by cases live.symm.trans failed).elim
  | proves h i c' _ _ _ _ changed => exact (fell.not_update (update changed) fun _ _ _ _ _ => nofun).elim
  | authenticates h proof i c' _ _ _ _ _ _ changed => exact (fell.not_update (update changed) fun _ _ _ _ _ => nofun).elim
  | seals h r first i c' _ _ _ _ _ changed => exact (fell.not_update (update changed) fun _ _ _ _ _ => nofun).elim
  | mismatches i ended fails =>
    obtain ⟨before, after⟩ := last ended
    exact (before.trans (fails ▸ .failContext v i .authMismatch)).trans after

theorem failContext_queue (s : State) (i : Nat) (reason : FailReason) : (s.failContext i reason false).queue = s.queue := by
  unfold State.failContext
  repeat' split
  all_goals simp_all

theorem ownVerify_of_fell {handle proof} {l m : LiveState} {reason : FailReason}
    (fell : Fell s (ownVerify handle proof s).1 n c d l m reason) :
    Withers false s (ownVerify handle proof s).1 ∧ (ownVerify handle proof s).1.queue = s.queue := by
  obtain same | ⟨i, failed⟩ | ⟨i, c', found, state, taken⟩ := ownVerify_cases s handle proof
  · exact (fell.not_stands (congrArg State.places same)).elim
  · rw [failed]
    exact ⟨.failContext .., failContext_queue ..⟩
  · refine (fell.not_update (i := i) (f := fun c => { c with state := .live .verifying }) ?_ fun _ _ _ _ _ => nofun).elim
    rw [taken]
    simp

theorem ownSeal_of_fell {handle vehicleClass charge sequence} {l m : LiveState} {reason : FailReason}
    (fell : Fell s (ownSeal handle vehicleClass charge sequence s).1 n c d l m reason) :
    Withers false s (ownSeal handle vehicleClass charge sequence s).1 ∧
      (ownSeal handle vehicleClass charge sequence s).1.queue = s.queue := by
  obtain same | ⟨i, failed⟩ | ⟨i, c', found, state, taken⟩ := ownSeal_cases s handle vehicleClass charge sequence
  · exact (fell.not_stands (congrArg State.places same)).elim
  · rw [failed]
    exact ⟨.failContext .., failContext_queue ..⟩
  · exact (fell.not_update ((congrArg State.places taken).trans (takeSeal_places ..)) fun _ _ _ _ _ => nofun).elim

theorem ownOpen_not_fell {lane issuer serial generation nonce dwell} {l m : LiveState} {reason : FailReason} :
    ¬ Fell s (ownOpen lane issuer serial generation nonce dwell s).1 n c d l m reason := by
  rintro ⟨before, live, after, failed⟩
  obtain opening | before' := contextAt_of_ownOpen after
  · cases opening.symm.trans failed
  · cases before.symm.trans before'
    cases live.symm.trans failed

/-- A command in which a context falls lets contexts wither; it posts the failure, or it is the refusal of a VERIFY or a SEAL,
which posts nothing (R84). -/
theorem exec_of_fell (work : s.workLawful) {i : Instr} (h : exec i s = .next t) {l m : LiveState} {reason : FailReason}
    (fell : Fell s t n c d l m reason) : Withers (!refusing i) s t ∧ (refusing i = true → t.queue = s.queue) := by
  have request {own : State → State × Answer} (own_withers : Fell s (own s).1 n c d l m reason →
        Withers (!refusing i) s (own s).1 ∧ (refusing i = true → (own s).1.queue = s.queue))
      (h : request i own s = .next t) : Withers (!refusing i) s t ∧ (refusing i = true → t.queue = s.queue) := by
    obtain ⟨-, places, -⟩ | ⟨-, rfl⟩ := request_cases h
    · exact (fell.not_stands places).elim
    · obtain ⟨withers, queue⟩ := own_withers ⟨fell.before, fell.live, fell.after, fell.failed⟩
      exact ⟨withers.trans (.answered ..), queue⟩
  cases drives : driving i with
  | false =>
    have posts : refusing i = false := by
      revert drives
      cases i <;> simp [driving, refusing]
    rw [posts]
    exact ⟨(exec_shape drives h).of_fell fell, nofun⟩
  | true =>
    cases i <;> simp only [driving, Bool.false_eq_true] at drives
    case openTag => exact request (fun fell => (ownOpen_not_fell fell).elim) h
    case verify => exact request (fun fell => (ownVerify_of_fell fell).imp id fun queue _ => queue) h
    case sealTag => exact request (fun fell => (ownSeal_of_fell fell).imp id fun queue _ => queue) h
    case operationComplete name =>
      simp only [exec, execOperationComplete, event] at h
      split at h <;> cases h
      · exact ⟨operationComplete_of_fell work ‹_› fell, nofun⟩
      · exact (fell.not_stands rfl).elim

theorem refusing_iff (i : Instr) : refusing i = true ↔ (∃ h p, i = .verify h p) ∨ ∃ h v q r, i = .sealTag h v q r := by
  cases i <;> simp [refusing]

/-- Settles O19: the equation of `failContext`, and what a command in which a context falls leaves of it (`Withers`). -/
theorem failureEffects : Obligations.FailureEffects := by
  constructor
  · intro s n reason posted
    exact ⟨fun c l => failContext_eq_failed reason posted, failContext_of_dead reason posted⟩
  · intro i s t n c d l m reason work h before live after failed
    obtain ⟨withers, queue⟩ := exec_of_fell work h ⟨before, live, after, failed⟩
    obtain ⟨same, fields, ⟨jobs, pins⟩, record⟩ := withers.failed before live after failed
    refine ⟨same, fields, jobs, pins, fun refuses => queue ((refusing_iff i).mpr refuses), fun notVerify notSeal => ?_⟩
    have posts : refusing i = false := Bool.eq_false_iff.mpr fun refuses => by
      obtain ⟨h, p, is⟩ | ⟨h, v, q, r, is⟩ := (refusing_iff i).mp refuses
      · exact notVerify h p is
      · exact notSeal h v q r is
    exact record (by rw [posts]; rfl)

end Sys2Proof.Machine.TableLaws

/-! Admission (R101, R103 to R105): the work counted ahead of a deadline, and the estimate as two roundings upward. -/

namespace Sys2Proof.Machine.Admission

/-- Division rounded upward, as the estimate forms it, is the least quotient that covers the dividend. -/
theorem isLeast_div_roundedUp (a : Nat) {n : Nat} (pos : 1 ≤ n) : IsLeast { x : Nat | a ≤ x * n } ((a + (n - 1)) / n) := by
  have least := (gc_mul_ceilDiv (α := Nat) pos).isLeast_l (a := a)
  rw [Nat.ceilDiv_eq_add_pred_div, Nat.add_sub_assoc pos] at least
  simpa only [Nat.mul_comm] using least

/-- R105: first upward to whole microseconds on the units serving, then upward to whole milliseconds. -/
theorem estimateMs_isLeast (operations : Nat) {n : Nat} (units : 1 ≤ n) :
    ∃ micro, IsLeast { x : Nat | operations * 120 ≤ x * n } micro ∧
      IsLeast { x : Nat | micro ≤ x * 1000 } (estimateMs operations n) :=
  ⟨_, isLeast_div_roundedUp (operations * 120) units, isLeast_div_roundedUp _ (by decide)⟩

/-- The weights of the members that count, summed: a member that does not count weighs 0. -/
theorem sum_filter_eq_sum_ite {α : Type} (p : α → Bool) (weight : α → Nat) (l : List α) :
    ((l.filter p).map weight).sum = (l.map fun x => if p x = true then weight x else 0).sum := by
  simp [List.sum_map_ite]

/-- R103: a context counts unless it is FAILED or due after the deadline. -/
theorem contextsAhead_eq (contexts : List Context) (deadline : Nat) :
    contextsAhead contexts deadline =
      (contexts.map fun c => if c.isFailed = false ∧ c.deadline ≤ deadline then c.reserved else 0).sum := by
  rw [contextsAhead, sum_filter_eq_sum_ite]
  simp only [Bool.and_eq_true, Bool.not_eq_true', decide_eq_true_eq]

/-- R103, R104: the keyset job counts when its time is no later than the deadline. -/
theorem keysetAhead_eq (jobs : List Job) (deadline : Nat) :
    keysetAhead jobs deadline =
      (jobs.map fun j => if j.work.isKeyset = true ∧ j.time ≤ deadline then j.operations.length else 0).sum := by
  rw [keysetAhead, sum_filter_eq_sum_ite]
  simp only [Bool.and_eq_true, decide_eq_true_eq]

/-- Settles O16, by the two roundings, the cost of an OPEN and the two parts of the work ahead. -/
theorem admissionEstimate : Obligations.AdmissionEstimate := by
  refine ⟨fun operations n units _ => estimateMs_isLeast operations units, Transactions.openCost_eq, fun s dwell cost => ?_⟩
  rw [State.openEstimate, contextsAhead_eq, keysetAhead_eq]

end Sys2Proof.Machine.Admission

/-! The Cipher Engine (R111 to R116, R123 to R125): the arbiter's order and what its units take, the self-test, and RESTART. -/

namespace Sys2Proof.Machine.Engine

open Loading (exec_outcome)

/-! ### Units -/

theorem isFree_iff (u : CipherUnit) : u.isFree = true ↔ u.activity = .free := by
  cases activity : u.activity <;> simp [CipherUnit.isFree, activity]

theorem isFree_eq_false_iff (u : CipherUnit) : u.isFree = false ↔ u.activity ≠ .free := by
  rw [← Bool.not_eq_true, isFree_iff]

@[simp] theorem unit_setUnit_same (s : State) (name : UnitName) (v : CipherUnit) : (s.setUnit name v).unit name = v := by
  cases name <;> rfl

/-! ### The waiting orders (R115) -/

section

variable {jobs : List Job} {j : Job} {before : Job → Job → Bool}

theorem firstJob_eq_none_iff : firstJob before jobs = none ↔ jobs = [] := by
  cases jobs with
  | nil => simp [firstJob]
  | cons x rest =>
    simp only [firstJob, reduceCtorEq, iff_false]
    repeat' split
    all_goals nofun

/-- In an order given by a key, the first job has a least key. -/
theorem firstJob_least {α : Type} [LinearOrder α] (key : Job → α)
    (before_iff : ∀ a b, before a b = true ↔ key a < key b) (first : firstJob before jobs = some j) :
    ∀ k ∈ jobs, key j ≤ key k := by
  induction jobs generalizing j with
  | nil => nofun
  | cons x rest ih =>
    rw [List.forall_mem_cons]
    cases later : firstJob before rest with
    | none =>
      obtain rfl := firstJob_eq_none_iff.mp later
      obtain rfl : x = j := by simpa only [firstJob, Option.some.injEq] using first
      exact ⟨le_rfl, nofun⟩
    | some y =>
      simp only [firstJob, later] at first
      split at first <;> cases first
      · exact ⟨((before_iff ..).mp ‹_›).le, ih later⟩
      · rename_i notBefore
        have least := not_lt.mp ((before_iff ..).not.mp notBefore)
        exact ⟨le_rfl, fun k mem => least.trans (ih later k mem)⟩

/-- LANE and KEYSET jobs wait by deadline, then by sequence. -/
theorem deadlineBefore_iff (a b : Job) :
    deadlineBefore a b = true ↔ toLex (a.time, a.sequence) < toLex (b.time, b.sequence) := by
  simp [deadlineBefore, Prod.Lex.toLex_lt_toLex]

theorem sequenceBefore_iff (a b : Job) : sequenceBefore a b = true ↔ a.sequence < b.sequence := by
  simp [sequenceBefore]

theorem firstJob_deadline_least (first : firstJob deadlineBefore jobs = some j) :
    ∀ k ∈ jobs, j.time < k.time ∨ j.time = k.time ∧ j.sequence ≤ k.sequence := fun k mem =>
  Prod.Lex.toLex_le_toLex.mp (firstJob_least (fun x => toLex (x.time, x.sequence)) deadlineBefore_iff first k mem)

theorem firstJob_sequence_least (first : firstJob sequenceBefore jobs = some j) :
    ∀ k ∈ jobs, j.sequence ≤ k.sequence :=
  firstJob_least (·.sequence) sequenceBefore_iff first

/-! ### The job that the arbiter hands out (R116) -/

/-- The next job is the first LANE or KEYSET job that waits, or, when none waits, the first PREFETCH job that waits. -/
theorem nextJob_cases (next : nextJob jobs = some j) :
    firstJob deadlineBefore (jobs.filter fun j => !j.running && !j.work.isPrefetch) = some j ∨
    (∀ k ∈ jobs, k.running = false → k.work.isPrefetch = true) ∧
      firstJob sequenceBefore (jobs.filter fun j => !j.running && j.work.isPrefetch) = some j := by
  unfold nextJob at next
  split at next
  · cases next
    exact .inl ‹_›
  · have none_waits := firstJob_eq_none_iff.mp ‹_›
    simp only [List.filter_eq_nil_iff, Bool.and_eq_true, Bool.not_eq_true', not_and, Bool.not_eq_false] at none_waits
    exact .inr ⟨none_waits, next⟩

theorem nextJob_least (next : nextJob jobs = some j) {k : Job} (mem : k ∈ jobs) (waits : k.running = false) :
    if j.work.isPrefetch = true then k.work.isPrefetch = true ∧ j.sequence ≤ k.sequence
    else k.work.isPrefetch = false → j.time < k.time ∨ (j.time = k.time ∧ j.sequence ≤ k.sequence) := by
  obtain first | ⟨prefetches, first⟩ := nextJob_cases next
  · obtain ⟨-, kind⟩ := List.mem_filter.mp (firstJob_mem first)
    have lane : j.work.isPrefetch = false := by simpa [(nextJob_waits next).2] using kind
    rw [if_neg (Bool.eq_false_iff.mp lane)]
    exact fun other => firstJob_deadline_least first k (List.mem_filter.mpr ⟨mem, by simp [waits, other]⟩)
  · have prefetch := prefetches j (nextJob_waits next).1 (nextJob_waits next).2
    have other := prefetches k mem waits
    rw [if_pos prefetch]
    exact ⟨other, firstJob_sequence_least first k (List.mem_filter.mpr ⟨mem, by simp [waits, other]⟩)⟩

/-- The arbiter finds no job only when none waits. -/
theorem running_of_nextJob_eq_none (none : nextJob jobs = none) {k : Job} (mem : k ∈ jobs) : k.running = true := by
  unfold nextJob at none
  split at none
  · cases none
  · rename_i noLanes
    have noLane := List.filter_eq_nil_iff.mp (firstJob_eq_none_iff.mp noLanes) k mem
    have noPrefetch := List.filter_eq_nil_iff.mp (firstJob_eq_none_iff.mp none) k mem
    cases prefetch : k.work.isPrefetch with
    | false => simpa [prefetch] using noLane
    | true => simpa [prefetch] using noPrefetch

end

/-! ### A unit's taking of a job (R116) -/

section

variable {s : State} {name : UnitName} {j : Job}

theorem takeNext_of_nextJob (serves : (s.unit name).serves s.suspended = true) (free : (s.unit name).activity = .free)
    (next : nextJob s.jobs = some j) :
    s.takeNext name =
      (s.setJobs (updateJob s.jobs j.sequence fun j => { j with running := true, started := true })).setUnit name
        { s.unit name with activity := .running j.sequence (masterKeyFor s.slots j.operations.head?) } := by
  simp only [State.takeNext, serves, (isFree_iff _).mpr free, next, Bool.and_true, if_true]

/-- What U1 takes leaves U0 as it is. -/
theorem takeNext_u1_u0 (s : State) : (s.takeNext .u1).u0 = s.u0 := by
  obtain ⟨same, -⟩ | ⟨j, -, -, taken⟩ := s.takeNext_cases .u1
  · rw [same]
  · rw [taken]; rfl

/-- A job that was handed out before stays as it is. -/
theorem mem_takeNext_of_handedOut (mem : j ∈ s.jobs) (running : j.running = true) (started : j.started = true) :
    j ∈ (s.takeNext name).jobs := by
  obtain ⟨same, -⟩ | ⟨k, -, -, taken⟩ := s.takeNext_cases name
  · rwa [same]
  · rw [taken]
    simp only [State.setUnit_keeps, State.setJobs_jobs]
    refine List.mem_map.mpr ⟨j, mem, ?_⟩
    obtain ⟨_, _, _, _, _, _⟩ := j
    cases running
    cases started
    exact ite_self _

/-- A job that waits after a unit's taking waited before it. -/
theorem mem_of_waits_after_takeNext (mem : j ∈ (s.takeNext name).jobs) (waits : j.running = false) : j ∈ s.jobs := by
  obtain ⟨same, -⟩ | ⟨k, -, -, taken⟩ := s.takeNext_cases name
  · rwa [same] at mem
  · rw [taken] at mem
    simp only [State.setUnit_keeps, State.setJobs_jobs] at mem
    obtain ⟨x, mem, rfl⟩ := List.mem_map.mp mem
    split at waits
    · cases waits
    · rwa [if_neg ‹_›]

/-- A unit that serves and has had its turn is not FREE while a job waits. -/
theorem takeNext_not_free (mem : j ∈ (s.takeNext name).jobs) (waits : j.running = false)
    (serves : ((s.takeNext name).unit name).serves s.suspended = true) :
    ((s.takeNext name).unit name).activity ≠ .free := by
  obtain ⟨same, idle | none⟩ | ⟨k, -, -, taken⟩ := s.takeNext_cases name
  · rw [same] at serves ⊢
    rw [serves, Bool.true_and] at idle
    exact (isFree_eq_false_iff _).mp idle
  · have running := running_of_nextJob_eq_none none (mem_of_waits_after_takeNext mem waits)
    rw [waits] at running
    cases running
  · rw [taken, unit_setUnit_same]
    nofun

/-! ### The arbiter's round (R116) -/

/-- U0 is served first: it runs the next job, which the queue then holds as handed out. -/
theorem arbitrate_serves_u0 (serves : s.u0.serves s.suspended = true) (free : s.u0.activity = .free)
    (next : nextJob s.jobs = some j) :
    s.arbitrate.u0.activity = .running j.sequence (masterKeyFor s.slots j.operations.head?) ∧
    { j with running := true, started := true } ∈ s.arbitrate.jobs := by
  have taken : s.takeNext .u0 = _ := takeNext_of_nextJob serves free next
  constructor
  · rw [State.arbitrate, takeNext_u1_u0, taken]
    rfl
  · refine mem_takeNext_of_handedOut ?_ rfl rfl
    rw [taken]
    simp only [State.setUnit_keeps, State.setJobs_jobs]
    exact List.mem_map.mpr ⟨j, (nextJob_waits next).1, if_pos rfl⟩

theorem arbitrate_not_free (mem : j ∈ s.arbitrate.jobs) (waits : j.running = false) (name : UnitName)
    (serves : (s.arbitrate.unit name).serves s.arbitrate.suspended = true) : (s.arbitrate.unit name).activity ≠ .free := by
  have suspended : s.arbitrate.suspended = s.suspended := by simp
  cases name with
  | u0 =>
    have same : s.arbitrate.unit .u0 = (s.takeNext .u0).unit .u0 := takeNext_u1_u0 _
    rw [same, suspended] at serves
    rw [same]
    exact takeNext_not_free (mem_of_waits_after_takeNext mem waits) waits serves
  | u1 =>
    have suspended_u0 : s.arbitrate.suspended = (s.takeNext .u0).suspended := by simp
    rw [suspended_u0] at serves
    exact takeNext_not_free mem waits serves

end

/-- Settles O48, by the least keys of the waiting orders and the two units' turns. -/
theorem arbiterOrder : Obligations.ArbiterOrder := by
  refine ⟨fun jobs j next => ?_, fun s j serves free next => ?_, fun s j => arbitrate_not_free⟩
  · obtain ⟨mem, waits⟩ := nextJob_waits next
    exact ⟨mem, waits, fun k => nextJob_least next⟩
  · obtain ⟨runs, mem⟩ := arbitrate_serves_u0 serves free next
    exact ⟨runs, _, mem, rfl, rfl, rfl, rfl⟩

/-! ### The comparisons of a self-test (R123) -/

theorem testForward_eq_iff (f : UnitFault) : testForward f = Config.testOutput ↔ f.forward = 0 :=
  xor_left_eq_self_iff

/-- E⁻¹ of the known answer is the test block, as E and E⁻¹ undo each other. -/
theorem testInverse_eq_iff (f : UnitFault) : testInverse f = Config.testBlock ↔ f.inverse = 0 := by
  have block : decipher Config.testKey Config.testOutput = Config.testBlock := Equiv.symm_apply_apply ..
  rw [testInverse, block, xor_left_eq_self_iff]

/-- A unit passes exactly when its fault inverts no bit. -/
theorem passesTest_iff (f : UnitFault) : passesTest f = true ↔ f = ⟨0, 0⟩ := by
  rw [passesTest, Bool.and_eq_true, decide_eq_true_iff, decide_eq_true_iff, testForward_eq_iff, testInverse_eq_iff]
  cases f
  simp

/-! ### The end of a self-test (R123, R124) -/

section

variable {s : State} (fault0 fault1 : UnitFault)

theorem serviceAfterTest_eq (service : ServiceState) (origin : TestOrigin) (pass0 pass1 : Bool) :
    serviceAfterTest service origin pass0 pass1 =
      if pass0 = false ∧ pass1 = false then .halted else if origin = .startUp then .serviceOff else service := by
  simp only [serviceAfterTest, Bool.and_eq_true, Bool.not_eq_true']
  cases origin <;> rfl

theorem endTest_without_test (none : s.test = none) : State.endTest fault0 fault1 s = s := by
  simp only [State.endTest, none]

theorem endTest_of_test {origin : TestOrigin} (test : s.test = some origin) :
    State.endTest fault0 fault1 s =
      (((((s.setTest none).setU0 (s.u0.tested (passesTest fault0))).setU1 (s.u1.tested (passesTest fault1))).setService
        (serviceAfterTest s.service origin (passesTest fault0) (passesTest fault1))).post
          (.selftestDone origin (passesTest fault0) (passesTest fault1))).arbitrate := by
  simp only [State.endTest, test]

end

/-! ### SELFTEST and RESTART (R125, R149) -/

section

variable {s : State}

theorem ownSelftest_outside_serviceOff (service : s.service ≠ .serviceOff) :
    ownSelftest s = (s, .refuse .serviceState) := by
  rw [ownSelftest, if_pos service]

/-- In SERVICE_OFF a SELFTEST is refused while the engine is suspended, or is not empty and idle. -/
theorem ownSelftest_serviceOff (service : s.service = .serviceOff) :
    ownSelftest s =
      if s.suspended = true then (s, .refuse .thermal)
      else if s.jobs ≠ [] ∨ s.u0.activity ≠ .free ∨ s.u1.activity ≠ .free then (s, .refuse .busy)
      else (s.beginTest .request, .selftestBegun) := by
  simp only [ownSelftest, service, ne_eq, not_true_eq_false, if_false, isFree_eq_false_iff]

/-- RESTART passes the Lane Link in HALTED too, handed over or not (R149, R163). -/
theorem linkRefusal_restart_of_halted (service : s.service = .halted) : s.linkRefusal .restart = none := by
  rw [State.linkRefusal, service]
  exact ite_self none

theorem exec_restart (taken : s.takes .restart ∨ (s.power = .running ∧ s.service = .halted)) :
    exec .restart s = .next ((s.setRestarting true).answered .restart .restarting) := by
  obtain taken | ⟨running, service⟩ := taken
  · exact exec_outcome (i := .restart) rfl rfl taken rfl
  · exact request_taken (own := fun s => (s.setRestarting true, .restarting)) running (linkRefusal_restart_of_halted service)

end

/-- Settles O41, by the equations of SELFTEST, of the end of a self-test and of RESTART. -/
theorem selftestAndRestart : Obligations.SelftestAndRestart := by
  intro s
  refine ⟨fun taken => ?_, exec_restart, fun running fault0 fault1 => ⟨passesTest_iff, fun none => ?_, fun origin test => ?_⟩⟩
  · have outcome {t a} := exec_outcome (t := t) (a := a) (i := .selftest) rfl rfl taken
    refine ⟨fun service => outcome (ownSelftest_outside_serviceOff service), fun service => ?_⟩
    have own := ownSelftest_serviceOff service
    refine ⟨fun suspended => outcome (own.trans (if_pos suspended)), fun awake => ?_⟩
    rw [if_neg (Bool.eq_false_iff.mp awake)] at own
    refine ⟨fun busy => outcome (own.trans (if_pos busy)), fun empty idle0 idle1 => outcome (own.trans (if_neg ?_))⟩
    simp [empty, idle0, idle1]
  · exact (event_running running).trans (congrArg _ (endTest_without_test fault0 fault1 none))
  · have ends := endTest_of_test fault0 fault1 test
    rw [serviceAfterTest_eq] at ends
    exact (event_running running).trans (congrArg _ ends)

end Sys2Proof.Machine.Engine

/-! Lane time, lanes, the configuration and the service state (R71, R89, R90, R137 to R146): what TIME, LANES, CONFIG and SERVICE
answer and leave, and how lane time advances while a slew debt is absorbed. -/

namespace Sys2Proof.Machine.LaneService

open Loading (exec_outcome)
open Scheduling (refusedFirst_of_gate)

/-! ### TIME (R139, R140) -/

section

variable {s : State} {value : BitVec 48} {now : Nat}

theorem ownTime_unset (unset : s.clock.time = none) :
    ownTime value s = (s.setClock ⟨some value.toNat, 0, s.clock.base⟩, .timeTaken .set value.toNat 0) := by
  simp only [ownTime, unset]

theorem ownTime_step (set : s.clock.time = some now) (onward : now ≤ value.toNat) :
    ownTime value s = (s.setClock ⟨some value.toNat, 0, s.clock.base⟩, .timeTaken .step value.toNat 0) := by
  simp only [ownTime, set, if_pos onward]

theorem ownTime_slew (set : s.clock.time = some now) (back : value.toNat < now) (slight : now - value.toNat ≤ 2000) :
    ownTime value s =
      (s.setClock ⟨some now, now - value.toNat, s.clock.base⟩, .timeTaken .slew now (now - value.toNat)) := by
  simp only [ownTime, set, if_neg back.not_ge, if_pos slight]

theorem ownTime_backward (set : s.clock.time = some now) (back : value.toNat < now) (far : 2000 < now - value.toNat) :
    ownTime value s = (s, .refuse (.timeBackward now)) := by
  simp only [ownTime, set, if_neg back.not_ge, if_neg far.not_ge]

end

/-- Settles O37, by one equation of the Lane Clock's event for each case of R139. -/
theorem timeSetsStepsOrSlews : Obligations.TimeSetsStepsOrSlews := by
  intro s value
  refine ⟨refusedFirst_of_gate (i := .time value) rfl rfl rfl rfl rfl, fun taken => ?_⟩
  have outcome {t a} := exec_outcome (t := t) (a := a) (i := .time value) rfl rfl taken
  refine ⟨fun unset => outcome (ownTime_unset unset), fun now set => ⟨?_, ?_, ?_⟩⟩
  · exact fun onward => outcome (ownTime_step set onward)
  · exact fun back slight => outcome (ownTime_slew set back slight)
  · exact fun back far => outcome (ownTime_backward set back far)

/-! ### LANE_TIME_TICK (R137, R138) -/

section

variable {c : LaneClock} {now : Nat}

theorem tick_unset (unset : c.time = none) : c.tick = { c with base := c.base + 1 } := by
  simp only [LaneClock.tick, unset]

theorem tick_advances (set : c.time = some now) (room : now < maxLaneTime) :
    c.tick = if c.debt = 0 then ⟨some (now + 1), 0, c.base + 1⟩ else ⟨some (now + 1), c.debt - 1, c.base + 2⟩ := by
  simp only [LaneClock.tick, set, if_neg room.not_ge]

theorem tick_at_largest (set : c.time = some now) (full : maxLaneTime ≤ now) : c.tick = { c with base := c.base + 1 } := by
  simp only [LaneClock.tick, set, if_pos full]

end

/-- As many ticks as the debt has milliseconds absorb it, in twice as many milliseconds of the time base (R138). -/
theorem tick_iterate_debt (debt now base : Nat) (room : now + debt ≤ maxLaneTime) :
    LaneClock.tick^[debt] ⟨some now, debt, base⟩ = ⟨some (now + debt), 0, base + 2 * debt⟩ := by
  induction debt generalizing now base with
  | zero => rfl
  | succ debt ih =>
    have first : LaneClock.tick ⟨some now, debt + 1, base⟩ = ⟨some (now + 1), debt, base + 2⟩ := by
      rw [tick_advances rfl (by omega), if_neg (by simp), Nat.add_sub_cancel]
    rw [Function.iterate_succ_apply, first, ih (now + 1) (base + 2) (by omega)]
    simp only [LaneClock.mk.injEq, Option.some.injEq, true_and]
    omega

theorem exec_laneTimeTick {s : State} (running : s.power = .running) :
    exec .laneTimeTick s = .next (s.setClock s.clock.tick) :=
  event_running (effect := fun s => s.setClock s.clock.tick) running

/-- Settles O38: one equation for each case of an advance, and an induction over the debt. -/
theorem ticksAdvanceLaneTime : Obligations.TicksAdvanceLaneTime := by
  refine ⟨fun s running => ?_, fun c now value set slewed room => ?_⟩
  · rw [exec_laneTimeTick running]
    refine ⟨fun unset => ?_, fun now set room => ?_, fun now set full => ?_⟩
    · rw [tick_unset unset]
    · rw [tick_advances set room]
    · rw [tick_at_largest set full]
  · obtain ⟨time, debt, base⟩ := c
    obtain rfl : time = some now := set
    dsimp only at slewed room ⊢
    rw [tick_iterate_debt debt now base room]
    refine ⟨rfl, congrArg some ?_, rfl⟩
    dsimp only
    omega

/-! ### The indices that a test picks out (R14, R89, R90) -/

section

variable {s : State} {p : Context → Bool} {n : Nat}

theorem mem_indicesWhere : n ∈ s.indicesWhere p ↔ ∃ c, s.contextAt n = some c ∧ p c = true := by
  simp only [State.indicesWhere, List.mem_filter, List.mem_range]
  cases at_n : s.contextAt n with
  | none => simp
  | some c =>
    obtain ⟨u, place⟩ := State.contextAt_eq_some.mp at_n
    have lt := (List.getElem?_eq_some_iff.mp place).1
    simp [lt]

theorem indicesWhere_pairwise (s : State) (p : Context → Bool) : (s.indicesWhere p).Pairwise (· < ·) :=
  List.pairwise_lt_range.filter _

theorem isLive_iff (c : Context) : c.isLive = true ↔ ∃ l, c.state = .live l := by
  cases state : c.state <;> simp [Context.isLive, state]

theorem mem_liveIndices : n ∈ s.liveIndices ↔ ∃ c l, s.contextAt n = some c ∧ c.state = .live l := by
  simp only [State.liveIndices, mem_indicesWhere, isLive_iff, exists_and_left]

end

/-! ### LANES (R143, R89) -/

section

variable (mask setMask clearMask : Byte)

/-- The lane mask after a LANES: the clear mask acts first (R143). -/
theorem getLsbD_lanes {k : Nat} (lane : k < 8) :
    ((mask &&& ~~~clearMask) ||| setMask).getLsbD k
      = (setMask.getLsbD k || (mask.getLsbD k && !clearMask.getLsbD k)) := by
  simp [lane, Bool.or_comm]

/-- The lanes that a change of the mask disables (R89). -/
theorem laneEnabled_disabled (before after lane : Byte) :
    laneEnabled (before &&& ~~~after) lane = true ↔
      before.getLsbD lane.toNat = true ∧ after.getLsbD lane.toNat = false := by
  have range (enabled : before.getLsbD lane.toNat = true) : lane.toNat < 8 := BitVec.lt_of_getLsbD enabled
  simp only [laneEnabled, BitVec.getLsbD_and, BitVec.getLsbD_not, Bool.and_eq_true, decide_eq_true_eq, Bool.not_eq_true']
  exact and_congr_right fun enabled => and_iff_right (range enabled)

theorem mem_liveOnLanes {s : State} {lanes : Byte} {n : Nat} :
    n ∈ s.liveOnLanes lanes ↔ ∃ c l, s.contextAt n = some c ∧ c.state = .live l ∧ laneEnabled lanes c.lane = true := by
  simp only [State.liveOnLanes, mem_indicesWhere, Bool.and_eq_true, isLive_iff, ← exists_and_right, exists_and_left]

variable {setMask clearMask} {s : State}

theorem ownLanes_overlap (overlap : setMask &&& clearMask ≠ 0) :
    ownLanes setMask clearMask s = (s, .refuse (.badField 0 (setMask &&& clearMask))) :=
  if_pos overlap

theorem ownLanes_taken (apart : setMask &&& clearMask = 0) :
    ownLanes setMask clearMask s =
      let mask := (s.mask &&& ~~~clearMask) ||| setMask
      ((s.setMask mask).failEach (s.liveOnLanes (s.mask &&& ~~~mask)) .laneOff, .lanes mask) :=
  if_neg (not_not_intro apart)

end

/-! ### CONFIG (R144, R157) -/

theorem clamp_eq {low high : Nat} (range : low ≤ high) (x : Nat) : clamp low high x = min high (max low x) := by
  unfold clamp
  split
  · omega
  split <;> omega

/-- COOL is clamped to a range that HOT as taken leaves open (R144). -/
theorem settingsTaken_eq (gantry : BitVec 16) (quota margin hot cool faultCode : Byte) :
    settingsTaken gantry quota margin hot cool faultCode = {
      gantry := gantry
      quota := min 48 (max 1 quota.toNat)
      margin := min 100 margin.toNat
      hot := min 110 (max 60 hot.toNat)
      cool := min (min 110 (max 60 hot.toNat) - 5) (max 50 cool.toNat)
      faultCode := min 3 faultCode.toNat } := by
  have open_range : 50 ≤ min 110 (max 60 hot.toNat) - 5 := by omega
  simp [settingsTaken, clamp_eq, open_range]

/-- Settles O39: the bits of the new mask, the contexts of the lanes that it disables, and the clamps of CONFIG. -/
theorem lanesAndConfig : Obligations.LanesAndConfig := by
  refine ⟨fun s setMask clearMask taken => ?_, fun s gantry quota margin hot cool faultCode taken => ?_⟩
  · have outcome {t a} := exec_outcome (t := t) (a := a) (i := .lanes setMask clearMask) rfl rfl taken
    refine ⟨fun overlap => outcome (ownLanes_overlap overlap), fun apart => ⟨_, _, ?_, ?_, ?_, outcome (ownLanes_taken apart)⟩⟩
    · exact fun k => getLsbD_lanes s.mask setMask clearMask
    · exact indicesWhere_pairwise ..
    · exact fun n => by simp only [mem_liveOnLanes, laneEnabled_disabled]
  · have outcome {t a} :=
      exec_outcome (t := t) (a := a) (i := .config gantry quota margin hot cool faultCode) rfl rfl taken
    exact outcome (by rw [ownConfig, settingsTaken_eq])

/-! ### SERVICE (R146, R90, R71) -/

section

variable {s : State}

/-- In SERVICE_OFF a SERVICE on needs lane time, and waits for no test (R146). -/
theorem ownServiceOn_serviceOff (service : s.service = .serviceOff) :
    ownServiceOn s =
      if s.test ≠ none then (s, .refuse .busy)
      else if s.clock.time = none then (s, .refuse .noTime)
      else (s.setService .serviceOn, .service .serviceOn 0) := by
  simp only [ownServiceOn, if_pos service, Option.isSome_iff_ne_none, Option.isNone_iff_eq_none]

theorem ownServiceOn_elsewhere (service : s.service ≠ .serviceOff) : ownServiceOn s = (s, .service s.service 0) :=
  if_neg service

theorem ownServiceOff_serviceOn (service : s.service = .serviceOn) :
    ownServiceOff s =
      (((s.setService .serviceOff).failEach s.liveIndices .serviceOff).cancelJobs fun j => j.work.isPrefetch,
        .service .serviceOff s.liveIndices.length) :=
  if_pos service

theorem ownServiceOff_elsewhere (service : s.service ≠ .serviceOn) : ownServiceOff s = (s, .service s.service 0) :=
  if_neg service

end

/-- Settles O40, by the equations of SERVICE on and SERVICE off in each service state. -/
theorem serviceOnAndOff : Obligations.ServiceOnAndOff := by
  refine fun s => ⟨fun taken => ?_, fun taken => ?_⟩
  · have outcome {t a} := exec_outcome (t := t) (a := a) (i := .serviceOn) rfl rfl taken
    refine ⟨fun service => ?_, fun service => outcome (ownServiceOn_elsewhere service)⟩
    have own := ownServiceOn_serviceOff service
    refine ⟨fun busy => outcome (own.trans (if_pos busy)), fun idle unset => ?_, fun idle set => ?_⟩
    · exact outcome (own.trans ((if_neg (not_not_intro idle)).trans (if_pos unset)))
    · exact outcome (own.trans ((if_neg (not_not_intro idle)).trans (if_neg set)))
  · have outcome {t a} := exec_outcome (t := t) (a := a) (i := .serviceOff) rfl rfl taken
    refine ⟨fun service => outcome (ownServiceOff_elsewhere service), fun service => ?_⟩
    exact ⟨s.liveIndices, indicesWhere_pairwise .., fun n => mem_liveIndices, outcome (ownServiceOff_serviceOn service)⟩

end Sys2Proof.Machine.LaneService

/-! Supply, resets and zeroize (R18 to R20, R148 to R151), the laws at the end of a reset, and the output pins with the line rate
(R145, R158, R167). -/

namespace Sys2Proof.Machine.Resets

open CacheLaws (Cached cacheLawful_iff)
open LaneService (clamp_eq ownServiceOn_serviceOff ownServiceOff_serviceOn ownServiceOff_elsewhere)
open Loading (exec_outcome exec_taken)
open Ranges (Ranged endReset_kept)
open TableLaws (Working working_iff)

/-! ### The effects of the commands (R148 to R151) -/

section

variable {s : State}

theorem exec_powerOn (dead : s.power = .noSupply) : exec .powerOn s = .next s.beginReset :=
  congrArg _ (if_pos dead)

theorem exec_resetNLow (supplied : s.power ≠ .noSupply) : exec .resetNLow s = .next s.beginReset :=
  congrArg _ (if_neg supplied)

theorem exec_resetEnd (held : s.power = .inReset) (rate1 rate0 : Bool) :
    exec (.resetEnd rate1 rate0) s = .next (s.endReset rate1 rate0) :=
  congrArg _ (if_pos held)

theorem exec_zeroize (supplied : s.power ≠ .noSupply) : exec .zeroize s = .next s.zeroized :=
  congrArg _ (if_neg supplied)

/-- A part that carries the ZEROIZED mark comes out of reset in ZEROIZED, and tests nothing (R151). -/
theorem endReset_of_marked (marked : s.zeroizedMark = true) (rate1 rate0 : Bool) :
    s.endReset rate1 rate0 =
      ((s.clearVolatile.setPower .running).setStraps (rate1, rate0)).setService .zeroized :=
  if_pos marked

/-- Another part comes out of reset in STARTING, with its start-up test begun (R124, R148). -/
theorem endReset_of_unmarked (unmarked : s.zeroizedMark = false) (rate1 rate0 : Bool) :
    s.endReset rate1 rate0 =
      ((s.clearVolatile.setPower .running).setStraps (rate1, rate0)).beginTest .startUp :=
  if_neg (Bool.eq_false_iff.mp unmarked)

end

/-- Settles O49: a reset ends in one of two states, by the ZEROIZED mark, and each other command has one effect. -/
theorem resetsAndZeroize : Obligations.ResetsAndZeroize := by
  refine fun s => ⟨rfl, exec_powerOn, exec_resetNLow, fun rate1 rate0 held => ⟨_, exec_resetEnd held rate1 rate0, ?_⟩,
    exec_zeroize, fun key => rfl⟩
  cases mark : s.zeroizedMark with
  | true =>
    rw [endReset_of_marked mark]
    simp [State.clearVolatile, Settings.default, Place.fresh, CipherUnit.fresh, mark]
  | false =>
    rw [endReset_of_unmarked mark]
    simp [State.clearVolatile, State.beginTest, Settings.default, Place.fresh, CipherUnit.fresh, mark]

/-! ### The laws at State.reset -/

/-- The factory part stands as every reset leaves it (R148). -/
theorem endReset_reset : State.reset.endReset false false = State.reset := rfl

/-- The Directory's slots at the factory are EMPTY (R1). -/
theorem heldAt_blank (n i : Nat) : heldAt (List.replicate n Slot.blank) i = none := by
  simp only [heldAt, List.getElem?_replicate]
  split <;> rfl

theorem reset_directoryLawful : State.reset.directoryLawful := by
  have empty (i : Nat) : heldAt State.reset.slots i = none := heldAt_blank 64 i
  refine ⟨fun i j x y at_i => ?_, fun i j x y at_i => ?_, nofun, .nil⟩ <;> cases (empty i).symm.trans at_i

/-- No context is bound at reset, and every bound count is 0 (R1, R73). -/
theorem reset_boundsLawful : State.reset.boundsLawful := by
  have free : State.reset.contexts = [] := rfl
  refine ⟨fun i x at_i => ?_, by simp [free]⟩
  obtain rfl : x = Slot.blank := List.eq_of_mem_replicate (List.mem_of_getElem? at_i)
  simp [State.bindings, free, Slot.blank]

/-- Settles O51: the ranges hold after every end of a reset, and the tables, the queue and the cache are empty. -/
theorem resetIsLawful : Obligations.ResetIsLawful := by
  have ranged : Ranged State.reset := endReset_reset ▸ (endReset_kept State.reset false false).1
  obtain ⟨clock, stager, settings, thermal, engine, timed, reserved⟩ := ranged
  obtain ⟨work, tags⟩ := (working_iff State.reset).mp (.cleared rfl rfl)
  have cache : State.reset.cacheLawful := (cacheLawful_iff _).mpr (Cached.of_empty rfl)
  have sized : State.reset.tablesSized := ⟨List.length_replicate, List.length_replicate⟩
  refine ⟨reset_directoryLawful, work, tags, reserved, reset_boundsLawful, cache, sized, ?_, ?_, ?_, ?_, ?_, clock, stager,
    settings, thermal, engine, timed⟩ <;> decide

/-! ### The output pins (R145, R167) -/

section

variable {s : State}

theorem attn_iff (s : State) : s.attn = true ↔ s.power = .running ∧ s.queue.records ≠ [] := by
  simp [State.attn]

theorem ready_iff (s : State) : s.ready = true ↔ s.power = .running ∧ s.service = .serviceOn := by
  simp [State.ready]

theorem attn_eq_false_of_stopped (stopped : s.power ≠ .running) : s.attn = false :=
  Bool.eq_false_iff.mpr fun high => stopped ((attn_iff s).mp high).1

theorem attn_eq_false_of_empty (empty : s.queue.records = []) : s.attn = false :=
  Bool.eq_false_iff.mpr fun high => ((attn_iff s).mp high).2 empty

theorem ready_eq_false_of_stopped (stopped : s.power ≠ .running) : s.ready = false :=
  Bool.eq_false_iff.mpr fun high => stopped ((ready_iff s).mp high).1

theorem ready_eq_false_of_service (service : s.service ≠ .serviceOn) : s.ready = false :=
  Bool.eq_false_iff.mpr fun high => service ((ready_iff s).mp high).2

/-- A queue that a record was pushed to is not empty: the record joined it, or it was full (R166). -/
theorem push_records_ne_nil (q : CompletionQueue) (r : CompletionRecord) : (q.push r).records ≠ [] := by
  rcases Nat.lt_or_ge q.records.length 64 with room | full
  · simp [CompletionQueue.push_room r room]
  · rw [CompletionQueue.push_full r full]
    rintro (empty : q.records = [])
    simp [empty] at full

theorem post_attn (running : s.power = .running) (posts : s.service ≠ .zeroized) (r : CompletionRecord) :
    (s.post r).attn = true := by
  obtain ⟨-, zeroized⟩ | ⟨posted, -⟩ := s.post_eq r
  · exact absurd zeroized posts
  · rw [posted]
    exact (attn_iff _).mpr ⟨running, push_records_ne_nil s.queue r⟩

/-- A COLLECT leaves ATTN high exactly when it leaves a record (R168). -/
theorem attn_ownCollect (running : s.power = .running) (count : Byte) :
    (ownCollect count s).1.attn = true ↔ max 1 (min 7 count.toNat) < s.queue.records.length := by
  have number : collectTaken count = max 1 (min 7 count.toNat) := by
    rw [collectTaken, clamp_eq (by omega)]
    omega
  rw [attn_iff, ← number]
  simp [ownCollect, running]

theorem answered_attn (i : Instr) (a : Answer) : (s.answered i a).attn = s.attn := rfl

theorem answered_ready (i : Instr) (a : Answer) : (s.answered i a).ready = s.ready := rfl

theorem ready_ownServiceOff (s : State) : (ownServiceOff s).1.ready = false := by
  by_cases service : s.service = .serviceOn
  · rw [ownServiceOff_serviceOn service]
    exact ready_eq_false_of_service (by simp)
  · rw [ownServiceOff_elsewhere service]
    exact ready_eq_false_of_service service

/-- Supply loss, a reset and a zeroize leave the part stopped, or the Completion Queue empty in ZEROIZED (R149, R150). -/
theorem stopped_or_zeroized {i : Instr} (ends : i = .supplyLoss ∨ i = .resetNLow ∨ i = .zeroize) {t : State}
    (h : exec i s = .next t) : t.power ≠ .running ∨ t = s.zeroized := by
  by_cases supplied : s.power = .noSupply
  · obtain rfl | rfl | rfl := ends
    · cases h
      exact .inl nofun
    all_goals
      cases h
      rw [if_pos supplied, supplied]
      exact .inl nofun
  · obtain rfl | rfl | rfl := ends
    · cases h
      exact .inl nofun
    · cases (exec_resetNLow supplied).symm.trans h
      exact .inl nofun
    · cases (exec_zeroize supplied).symm.trans h
      exact .inr rfl

end

/-! ### The straps (R158) -/

/-- The line rate is a function of the straps. -/
theorem baud_eq_of_straps {s t : State} (straps : t.straps = s.straps) : t.baud = s.baud := by
  rw [State.baud, straps, State.baud]

theorem straps_endReset (s : State) (rate1 rate0 : Bool) : (s.endReset rate1 rate0).straps = (rate1, rate0) := by
  unfold State.endReset
  dsimp only
  split <;> simp

theorem straps_replySent (s : State) : s.replySent.straps = s.straps := by
  unfold State.replySent
  split
  · rfl
  · split <;> rfl

theorem straps_ownOpen (lane issuer serial generation nonce dwell) (s : State) :
    (ownOpen lane issuer serial generation nonce dwell s).1.straps = s.straps := by
  unfold ownOpen
  split <;> simp

theorem straps_ownPrefetch (issuer serial generation) (s : State) :
    (ownPrefetch issuer serial generation s).1.straps = s.straps := by
  unfold ownPrefetch State.prefetchResolved
  dsimp only
  repeat' split
  all_goals simp

theorem straps_ownStageCommit (crc) (s : State) : (ownStageCommit crc s).1.straps = s.straps := by
  unfold ownStageCommit State.commit
  dsimp only
  repeat' split
  all_goals simp

/-- No owner's event reads the straps anew: each is made of operations that keep them. -/
theorem straps_own {i : Instr} {own : State → State × Answer} (owned : ownerOf i = some own) (s : State) :
    (own s).1.straps = s.straps := by
  cases i <;> simp only [ownerOf, Option.some.injEq, reduceCtorEq] at owned <;> subst owned
  case openTag => exact straps_ownOpen ..
  case prefetch => exact straps_ownPrefetch ..
  case stageCommit => exact straps_ownStageCommit ..
  all_goals
    simp only [ownVerify, ownSeal, ownClose, ownQuery, ownPurge, ownCollect, ownStageBegin, ownStageChunk, ownStageAbandon,
      ownKeyRead, ownKeyWithdraw, ownRollover, ownRollback, ownTime, ownLanes, ownServiceOn, ownServiceOff, ownConfig,
      ownSelftest]
    repeat' split
    all_goals simp

theorem straps_request {i : Instr} {own : State → State × Answer} {s t : State} (keeps : (own s).1.straps = s.straps)
    (h : request i own s = .next t) : t.straps = s.straps := by
  unfold request at h
  split at h
  · split at h <;> cases h
    · rfl
    · exact keeps
  · cases h
    rfl

theorem straps_event {effect : State → State} {s t : State} (keeps : (effect s).straps = s.straps)
    (h : event effect s = .next t) : t.straps = s.straps := by
  unfold event at h
  split at h <;> cases h
  · exact keeps
  · rfl

/-- A STAGE_CHUNK that is not well formed is answered at once (log 28); every other request is its owner's event. -/
theorem straps_exec_request {i : Instr} {own : State → State × Answer} (owned : ownerOf i = some own) {s t : State}
    (h : exec i s = .next t) : t.straps = s.straps := by
  by_cases wf : i.wellFormed = true
  · exact straps_request (straps_own owned s) (exec_of_ownerOf owned wf s ▸ h)
  · cases i <;> simp only [Instr.wellFormed, ownerOf, reduceCtorEq, not_true_eq_false] at wf owned
    case stageChunk offset bytes =>
      have ill : (Instr.stageChunk offset bytes).wellFormed ≠ true := wf
      simp only [exec, execStageChunk, if_neg ill] at h
      exact straps_event rfl h

/-- Of the commands that are no requests, only RESET_END reads the straps. -/
theorem straps_exec_event {i : Instr} (unowned : ownerOf i = none) (other : ∀ rate1 rate0, i ≠ .resetEnd rate1 rate0)
    {s t : State} (h : exec i s = .next t) : t.straps = s.straps := by
  cases i <;> simp only [ownerOf, reduceCtorEq] at unowned
  case frameReceived =>
    refine straps_event ?_ h
    split <;> rfl
  case frameGapTimeout => exact straps_event (effect := fun s => s.setLink s.link.abandon) rfl h
  case byteReceived byte => exact straps_event (effect := fun s => s.setLink (s.link.receive s.report byte)) rfl h
  case replyComplete => exact straps_event (straps_replySent s) h
  case laneTimeTick => exact straps_event (effect := fun s => s.setClock s.clock.tick) rfl h
  case windowEnd =>
    refine straps_event (effect := fun s => if s.endedSlots = [] then s else s.withdraw s.endedSlots) ?_ h
    split <;> simp
  case prefetchExpiry sequence => exact straps_event (effect := fun s => s.cancelJobs (s.expires sequence)) rfl h
  case deadlineEvent | lingerEnd | phaseDue | thermalReading | operationComplete | selftestEnd =>
    exact straps_event (by simp) h
  case powerOn | resetNLow | zeroize =>
    cases h
    split <;> rfl
  case supplyLoss | provisioning =>
    cases h
    rfl
  case resetEnd rate1 rate0 => exact absurd rfl (other rate1 rate0)

theorem straps_exec {i : Instr} (other : ∀ rate1 rate0, i ≠ .resetEnd rate1 rate0) {s t : State}
    (h : exec i s = .next t) : t.straps = s.straps := by
  cases owned : ownerOf i with
  | none => exact straps_exec_event owned other h
  | some own => exact straps_exec_request owned h

/-- The line rate after a reset is that of the straps read at its end. -/
theorem straps_of_resetEnd {s t : State} (held : s.power = .inReset) {rate1 rate0 : Bool}
    (h : exec (.resetEnd rate1 rate0) s = .next t) : t.straps = (rate1, rate0) := by
  cases (exec_resetEnd held rate1 rate0).symm.trans h
  exact straps_endReset s rate1 rate0

/-- Settles O50: what the pins show, what each command that moves them leaves, and the commands that keep the straps. -/
theorem pinsAndLineRate : Obligations.PinsAndLineRate := by
  refine ⟨fun s => ⟨attn_iff s, ready_iff s⟩, fun s r running posts => post_attn running posts r, fun s t count taken h => ?_,
    fun s t taken service idle set h => ?_, fun s t taken h => ?_, fun s t i ends h => ?_, fun s t held => ?_,
    fun i s t other h => ⟨straps_exec other h, baud_eq_of_straps (straps_exec other h)⟩⟩
  · cases (exec_taken (i := .collect count) rfl rfl taken).symm.trans h
    rw [answered_attn, attn_ownCollect taken.1]
  · have on : ownServiceOn s = (s.setService .serviceOn, .service .serviceOn 0) := by
      rw [ownServiceOn_serviceOff service, if_neg (not_not_intro idle), if_neg set]
    cases (exec_outcome (i := .serviceOn) rfl rfl taken on).symm.trans h
    exact ⟨ready_eq_false_of_service (by simp [service]), (ready_iff _).mpr ⟨taken.1, rfl⟩⟩
  · cases (exec_taken (i := .serviceOff) rfl rfl taken).symm.trans h
    rw [answered_ready, ready_ownServiceOff]
  · obtain stopped | rfl := stopped_or_zeroized ends h
    · exact ⟨attn_eq_false_of_stopped stopped, ready_eq_false_of_stopped stopped⟩
    · exact ⟨attn_eq_false_of_empty rfl, ready_eq_false_of_service nofun⟩
  · have rate {rate1 rate0} (h : exec (.resetEnd rate1 rate0) s = .next t) := straps_of_resetEnd held h
    exact ⟨fun h => by simp [State.baud, rate h], fun h => by simp [State.baud, rate h],
      fun h => by simp [State.baud, rate h], fun h => by simp [State.baud, rate h]⟩

end Sys2Proof.Machine.Resets

/-! The Thermal Monitor (R153 to R155): the clamped reading and its counts, the four cases that decide the thermal state, and
what a decision leaves. -/

namespace Sys2Proof.Machine.ThermalMonitor

/-! ### The reading, the counts and the fault count (R144, R153) -/

theorem readingTaken_eq_clamp (celsius : Int) : readingTaken celsius = max (-40) (min 125 celsius) := by
  unfold readingTaken
  split
  · omega
  split <;> omega

theorem countAfter_decide (p : Prop) [Decidable p] (count : Nat) :
    countAfter (decide p) count = if p then (if count < 255 then count + 1 else count) else 0 := by
  by_cases rises : p <;> simp [countAfter, rises]

theorem faultCount_eq_match (x : Settings) :
    x.faultCount = match x.faultCode with
      | 0 => 1
      | 1 => 2
      | 2 => 4
      | _ => 6 := by
  unfold Settings.faultCount
  rcases x.faultCode with _ | _ | _ | code <;> rfl

/-! ### The first case that applies (R154) -/

section

variable {t : Thermal} {x : Settings} {reading : Int}

theorem stateAfter_suspends (beyond : 2 ≤ t.limitAfter reading) (awake : t.state ≠ .suspended) :
    t.stateAfter x reading = .suspended :=
  if_pos ⟨beyond, awake⟩

/-- Where the first case does not apply, the second to the fourth decide. -/
theorem stateAfter_unsuspended (within : t.limitAfter reading < 2 ∨ t.state = .suspended) :
    t.stateAfter x reading =
      if reading ≤ (x.cool : Int) ∧ t.state ≠ .normal then .normal
      else if x.faultCount ≤ t.hotAfter x reading ∧ t.state = .normal then .throttled
      else t.state :=
  if_neg fun ⟨beyond, awake⟩ => within.elim (Nat.not_lt.mpr beyond) awake

theorem stateAfter_cools (within : t.limitAfter reading < 2 ∨ t.state = .suspended) (cool : reading ≤ (x.cool : Int))
    (raised : t.state ≠ .normal) : t.stateAfter x reading = .normal :=
  (stateAfter_unsuspended within).trans (if_pos ⟨cool, raised⟩)

/-- Where the first two cases do not apply, the third and the fourth decide. -/
theorem stateAfter_uncooled (within : t.limitAfter reading < 2 ∨ t.state = .suspended)
    (warm : (x.cool : Int) < reading ∨ t.state = .normal) :
    t.stateAfter x reading = if x.faultCount ≤ t.hotAfter x reading ∧ t.state = .normal then .throttled else t.state :=
  (stateAfter_unsuspended within).trans (if_neg fun ⟨cool, raised⟩ => warm.elim (Int.not_lt.mpr cool) raised)

theorem stateAfter_throttles (within : t.limitAfter reading < 2 ∨ t.state = .suspended)
    (warm : (x.cool : Int) < reading ∨ t.state = .normal) (faulty : x.faultCount ≤ t.hotAfter x reading)
    (normal : t.state = .normal) : t.stateAfter x reading = .throttled :=
  (stateAfter_uncooled within warm).trans (if_pos ⟨faulty, normal⟩)

theorem stateAfter_stays (within : t.limitAfter reading < 2 ∨ t.state = .suspended)
    (warm : (x.cool : Int) < reading ∨ t.state = .normal)
    (sound : t.hotAfter x reading < x.faultCount ∨ t.state ≠ .normal) : t.stateAfter x reading = t.state :=
  (stateAfter_uncooled within warm).trans
    (if_neg fun ⟨faulty, normal⟩ => sound.elim (Nat.not_lt.mpr faulty) (· normal))

end

/-! ### What a decision leaves (R153, R155) -/

section

variable {s : State} {celsius : Int}

/-- The state with a reading taken: the clamped reading, both counts and the thermal state decided. -/
def withReading (s : State) (celsius : Int) (state : ThermalState) : State :=
  s.setThermal ⟨some (readingTaken celsius), s.thermal.hotAfter s.settings (readingTaken celsius),
    s.thermal.limitAfter (readingTaken celsius), state⟩

theorem exec_thermalReading (running : s.power = .running) :
    exec (.thermalReading celsius) s = .next (State.takeReading celsius s) :=
  event_running running

/-- A thermal state that does not change acts on nothing and posts nothing. -/
theorem exec_thermalReading_stays (running : s.power = .running)
    (decided : s.thermal.stateAfter s.settings (readingTaken celsius) = s.thermal.state) :
    exec (.thermalReading celsius) s = .next (withReading s celsius s.thermal.state) := by
  rw [exec_thermalReading running, State.takeReading, if_pos decided, decided, withReading]

/-- A change of the thermal state acts on the engine, and then is posted. -/
theorem exec_thermalReading_changes (running : s.power = .running) {left new : ThermalState} (was : s.thermal.state = left)
    (decided : s.thermal.stateAfter s.settings (readingTaken celsius) = new) (changes : left ≠ new) :
    exec (.thermalReading celsius) s =
      .next (((withReading s celsius new).actOnEngine new).post (.thermal left new (readingTaken celsius))) := by
  subst was decided
  rw [exec_thermalReading running, State.takeReading, if_neg changes.symm, withReading]

end

/-- Settles O43: the counts in the statement's own terms, then one decision and its effect for each case of R154. -/
theorem readingsDecideTheThermalState : Obligations.ReadingsDecideTheThermalState := by
  intro s celsius running reading hot limit faults read
  have reading_eq : readingTaken celsius = reading := readingTaken_eq_clamp celsius
  have hot_eq : s.thermal.hotAfter s.settings reading = hot := countAfter_decide ..
  have limit_eq : s.thermal.limitAfter reading = limit := countAfter_decide ..
  have faults_eq : s.settings.faultCount = faults := faultCount_eq_match s.settings
  clear_value reading hot limit faults
  subst reading_eq hot_eq limit_eq faults_eq
  refine ⟨fun beyond awake => ?suspends, fun within => ⟨fun cool raised => ?cools, fun warm =>
    ⟨fun faulty normal => ?throttles, fun sound => ?stays⟩⟩⟩
  case suspends => exact exec_thermalReading_changes running rfl (stateAfter_suspends beyond awake) awake
  case cools => exact exec_thermalReading_changes running rfl (stateAfter_cools within cool raised) raised
  case throttles => exact exec_thermalReading_changes running normal (stateAfter_throttles within warm faulty normal) nofun
  case stays => exact exec_thermalReading_stays running (stateAfter_stays within warm sound)

end Sys2Proof.Machine.ThermalMonitor

/-! Bytes (R171, R174): a field of a body is read back as it was written, and so a request comes back from the body that
carries it. -/

namespace Sys2Proof.Machine.RequestBytes

/-! ### Bytes and fields (R171) -/

@[simp] theorem length_toBytes (n v : Nat) : (toBytes n v).length = n := by
  induction n with
  | zero => rfl
  | succ n ih => simp [toBytes, ih]

@[simp] theorem length_wordBytes {w : Nat} (n : Nat) (v : BitVec w) : (wordBytes n v).length = n := length_toBytes n v.toNat

theorem foldl_toBytes (n v a : Nat) :
    (toBytes n v).foldl (fun v b => v * 256 + b.toNat) a = a * 256 ^ n + v % 256 ^ n := by
  induction n generalizing a with
  | zero => simp [toBytes, Nat.mod_one]
  | succ n ih =>
    rw [toBytes, List.foldl_cons, ih, BitVec.toNat_ofNat, Nat.mod_pow_succ (b := 256)]
    ring

/-- The n lowest bytes of a value come back from its n bytes. -/
theorem fromBytes_toBytes (n v : Nat) : fromBytes (toBytes n v) = v % 256 ^ n := by
  simpa [fromBytes] using foldl_toBytes n v 0

/-- A word of n bytes comes back from its bytes. -/
theorem fromBytes_wordBytes {w : Nat} (v : BitVec w) {n : Nat} (width : w = 8 * n) : fromBytes (wordBytes n v) = v.toNat := by
  rw [wordBytes, fromBytes_toBytes, Nat.mod_eq_of_lt]
  calc v.toNat < 2 ^ w := v.isLt
    _ = 256 ^ n := by rw [width, pow_mul]; rfl

theorem fieldAt_append_left {front : List Byte} {offset n : Nat} (within : offset + n ≤ front.length) (back : List Byte) :
    fieldAt (front ++ back) offset n = fieldAt front offset n := by
  rw [fieldAt, List.drop_append_of_le_length (by omega), List.take_append_of_le_length (by simp; omega), fieldAt]

theorem fieldAt_append_right {front : List Byte} {offset : Nat} (beyond : front.length ≤ offset) (back : List Byte) (n : Nat) :
    fieldAt (front ++ back) offset n = fieldAt back (offset - front.length) n := by
  rw [fieldAt, List.drop_append, List.drop_eq_nil_of_le beyond, List.nil_append, fieldAt]

/-- A field of a word's own bytes is the word. -/
theorem fieldAt_word {w : Nat} (v : BitVec w) {n : Nat} (width : w = 8 * n) : fieldAt (toBytes n v.toNat) 0 n = v.toNat := by
  rw [fieldAt, List.drop_zero, List.take_of_length_le (length_toBytes n _).le]
  exact fromBytes_wordBytes v width

/-! ### Decoding (R163, R173) -/

/-- A body whose length suits its kind is read by its fields (check 2 of R163). -/
theorem decodeRequest_of_length {kind : Byte} {body : List Byte} {shortest longest : Nat}
    (bounds : requestBody kind = some (shortest, longest)) (least : shortest ≤ body.length) (most : body.length ≤ longest) :
    decodeRequest kind body = decodeBody kind body := by
  simp [decodeRequest, bounds, least, most]

theorem decodeRequest_badLength {kind : Byte} {body : List Byte} {shortest longest : Nat}
    (bounds : requestBody kind = some (shortest, longest)) (bad : body.length < shortest ∨ longest < body.length) :
    decodeRequest kind body = .badLength := by
  have outside : ¬ (shortest ≤ body.length ∧ body.length ≤ longest) := by omega
  simp [decodeRequest, bounds, outside]

/-- No body is longer than the 242 bytes of a STAGE_CHUNK (R173). -/
theorem longest_le {kind : Byte} {shortest longest : Nat} (bounds : requestBody kind = some (shortest, longest)) :
    longest ≤ 242 := by
  unfold requestBody at bounds
  split at bounds <;> cases bounds <;> decide

/-- The body of a request is at most 242 bytes long. -/
theorem length_le_of_decodeRequest {kind : Byte} {body : List Byte} {i : Instr} (read : decodeRequest kind body = .request i) :
    body.length ≤ 242 := by
  unfold decodeRequest at read
  split at read
  · cases read
  rename_i shortest longest bounds
  split at read
  · rename_i within
    exact within.2.trans (longest_le bounds)
  · cases read

/-- Every well-formed request comes back from the kind and the body that carry it: each field is read where it was written. -/
theorem decodeRequest_encodeRequest {i : Instr} {kind : Byte} {body : List Byte} (wf : i.wellFormed = true)
    (encoded : encodeRequest i = some (kind, body)) : decodeRequest kind body = .request i := by
  cases i <;> simp only [encodeRequest, Option.some.injEq, Prod.mk.injEq, reduceCtorEq] at encoded <;>
    obtain ⟨rfl, rfl⟩ := encoded
  case serviceOff | serviceOn => rfl
  case stageChunk offset bytes =>
    simp only [Instr.wellFormed, Bool.and_eq_true, decide_eq_true_eq] at wf
    have fields : decodeBody 0x0A (toBytes 2 offset.toNat ++ bytes) = .request (.stageChunk offset bytes) := by
      simp [decodeBody, fieldAt_append_left, fieldAt_word]
    rw [decodeRequest_of_length rfl (by simp; omega) (by simp; omega), fields]
  all_goals
    rw [decodeRequest_of_length rfl (by simp) (by simp)]
    simp [decodeBody, fieldAt_append_left, fieldAt_append_right, fieldAt_word]

end Sys2Proof.Machine.RequestBytes

/-! The Lane Link's reception (R160 to R163): a byte moves the receiver, the last byte completes a frame, a good frame joins
the answer list, and the head entry is begun. -/

namespace Sys2Proof.Machine.Reception

open RequestBytes

/-! ### The receiver (R160) -/

section

variable {l : Link} {now : StatusReport} {length : Byte} {received : List Byte}

theorem receive_hunting (hunting : l.receiver = .hunting) (b : Byte) :
    l.receive now b = { l with receiver := if b = 0xD1 then .atLength else .hunting } := by
  cases l
  cases hunting
  simp only [Link.receive]
  split <;> rfl

theorem receive_atLength (atLength : l.receiver = .atLength) (b : Byte) :
    l.receive now b = { l with receiver := if 2 ≤ b.toNat ∧ b.toNat ≤ 250 then .inFrame b [] else .hunting } := by
  simp only [Link.receive, atLength]
  split <;> rfl

theorem receive_inFrame (inFrame : l.receiver = .inFrame length received) (short : received.length + 1 < length.toNat + 2)
    (b : Byte) : l.receive now b = { l with receiver := .inFrame length (received ++ [b]) } := by
  simp only [Link.receive, inFrame, if_pos short]

/-- The bytes of a frame before its last are gathered. -/
theorem foldl_receive_inFrame (inFrame : l.receiver = .inFrame length received) {bytes : List Byte}
    (short : received.length + bytes.length < length.toNat + 2) :
    bytes.foldl (fun l b => l.receive now b) l = { l with receiver := .inFrame length (received ++ bytes) } := by
  induction bytes generalizing l received with
  | nil => simp [← inFrame]
  | cons b rest ih =>
    rw [List.length_cons] at short
    rw [List.foldl_cons, receive_inFrame inFrame (by omega), ih rfl (by simp; omega), List.append_assoc, List.singleton_append]

theorem abandon_eq (l : Link) : l.abandon = { l with receiver := .hunting } := by
  cases l with
  | mk receiver entries stage => cases receiver <;> rfl

/-- A good frame joins the answer list as an entry or a note, or is discarded, and is begun at an empty list (R161, R162). -/
theorem join_eq (l : Link) (now : StatusReport) (kind tag : Byte) (body : List Byte) :
    l.join now kind tag body =
      { receiver := l.receiver
        entries :=
          if l.requests < 4 then l.entries ++ [.request kind tag body]
          else if l.notes < 8 then l.entries ++ [.overrun kind tag]
          else l.entries
        stage := if l.entries = [] then beginEntry now (.request kind tag body) else l.stage } := by
  obtain ⟨receiver, entries, stage⟩ := l
  cases entries with
  | nil => rfl
  | cons e rest => rfl

/-! The last byte of a frame. -/

section

variable {kind tag last : Byte} {body crc : List Byte} (inFrame : l.receiver = .inFrame length received)
  (bytes : received ++ [last] = kind :: tag :: (body ++ crc)) (size : body.length + 2 = length.toNat) (check : crc.length = 2)
include inFrame bytes size check

/-- A frame ends two bytes after those that its length counts. -/
theorem lacksOne_of_frame : l.receiver.lacksOne = true := by
  have total := congrArg List.length bytes
  simp only [List.length_append, List.length_cons, List.length_nil] at total
  rw [inFrame]
  exact decide_eq_true (by omega)

/-- The last byte completes the frame: it is good when its CRC-16 matches, and dropped otherwise (R160). -/
theorem receive_last :
    l.receive now last =
      if fromBytes crc = (crc16 (length :: kind :: tag :: body)).toNat then
        ({ l with receiver := .hunting } : Link).join now kind tag body
      else { l with receiver := .hunting } := by
  have whole : ¬ received.length + 1 < length.toNat + 2 := by
    have lacks := lacksOne_of_frame inFrame bytes size check
    rw [inFrame] at lacks
    exact (of_decide_eq_true lacks).not_lt
  have counted : (kind :: tag :: (body ++ crc)).take length.toNat = kind :: tag :: body :=
    List.take_left' (l₁ := kind :: tag :: body) size
  have checked : (kind :: tag :: (body ++ crc)).drop length.toNat = crc := List.drop_left' (l₁ := kind :: tag :: body) size
  simp only [Link.receive, inFrame, if_neg whole, Link.complete, bytes, counted, checked]

end

end

/-! ### The commands of the receiver -/

section

variable {s : State} (running : s.power = .running)
include running

theorem exec_byteReceived (b : Byte) : exec (.byteReceived b) s = .next (s.setLink (s.link.receive s.report b)) :=
  event_running (effect := fun s => s.setLink (s.link.receive s.report b)) running

theorem exec_frameReceived (last : Byte) :
    exec (.frameReceived last) s =
      .next (if s.link.receiver.lacksOne = true then s.setLink (s.link.receive s.report last) else s) :=
  event_running running

theorem exec_frameGapTimeout : exec .frameGapTimeout s = .next (s.setLink { s.link with receiver := .hunting }) := by
  rw [← abandon_eq]
  exact event_running (effect := fun s => s.setLink s.link.abandon) running

/-- The last byte of a frame has one effect, as BYTE_RECEIVED or as FRAME_RECEIVED (log 23). -/
theorem exec_lastByte {c : Instr} {last : Byte} (command : c = .byteReceived last ∨ c = .frameReceived last)
    (lacks : s.link.receiver.lacksOne = true) : exec c s = .next (s.setLink (s.link.receive s.report last)) := by
  obtain rfl | rfl := command
  · exact exec_byteReceived running last
  · rw [exec_frameReceived running, if_pos lacks]

end

/-- Settles O3, by the equation of the receiver in each of its states. -/
theorem bytesMoveTheReceiver : Obligations.BytesMoveTheReceiver := by
  intro b s running
  refine ⟨fun hunting => ?_, fun atLength => ?_, fun length received inFrame short => ?_, fun lacks => ?_,
    exec_frameGapTimeout running⟩
  · rw [exec_byteReceived running, receive_hunting hunting]
  · rw [exec_byteReceived running, receive_atLength atLength]
  · rw [exec_byteReceived running, receive_inFrame inFrame short]
  · rw [exec_frameReceived running, if_neg (by simp [lacks])]

/-- Settles O4: the last byte completes the frame, and a good frame joins the answer list. -/
theorem goodFramesJoinTheAnswerList : Obligations.GoodFramesJoinTheAnswerList := by
  intro c last length kind tag received body crc s command running inFrame bytes size check
  rw [exec_lastByte running command (lacksOne_of_frame inFrame bytes size check), receive_last inFrame bytes size check]
  refine ⟨fun differs => ?_, fun good => ?_⟩
  · rw [if_neg differs]
  · rw [if_pos good, join_eq]
    rfl

/-! ### The checks of the head entry (R163) -/

/-- What the service states leave to the requests that they name (R145): STATUS always, and in HALTED KEY_READ and RESTART. -/
theorem gate_status (service : ServiceState) : gate service .status = none := by
  cases service <;> rfl

theorem gate_starting {i : Instr} (other : i ≠ .status) : gate .starting i = some .notReady := if_neg other

theorem gate_zeroized {i : Instr} (other : i ≠ .status) : gate .zeroized i = some .zeroized := if_neg other

theorem gate_halted {i : Instr} (notStatus : i ≠ .status) (notRestart : i ≠ .restart)
    (notRead : ∀ index, i ≠ .keyRead index) : gate .halted i = some .halted := by
  simp only [gate]

theorem gate_halted_named {i : Instr} (named : i = .restart ∨ ∃ index, i = .keyRead index) : gate .halted i = none := by
  obtain rfl | ⟨index, rfl⟩ := named <;> rfl

/-- The service states have three refusals (R163). -/
theorem gate_cases {service : ServiceState} {i : Instr} {r : Refuse} (refused : gate service i = some r) :
    r = .notReady ∨ r = .halted ∨ r = .zeroized := by
  unfold gate at refused
  repeat' split at refused
  all_goals cases refused
  all_goals simp

section

variable {now : StatusReport} {kind tag : Byte} {body : List Byte} {i : Instr}

theorem beginEntry_gated (read : decodeRequest kind body = .request i) {r : Refuse} (refused : gate now.service i = some r) :
    beginEntry now (.request kind tag body) = .sending tag (.refuse r) := by
  simp only [beginEntry, read, refused]

/-- A STATUS has its reply in the event that begins it, in every service state (R170). -/
theorem beginEntry_status (read : decodeRequest kind body = .request .status) :
    beginEntry now (.request kind tag body) = .sending tag (.status now) := by
  simp only [beginEntry, read, gate_status, if_true]

theorem beginEntry_handed (read : decodeRequest kind body = .request i) (passes : gate now.service i = none)
    (other : i ≠ .status) : beginEntry now (.request kind tag body) = .handed := by
  simp only [beginEntry, read, passes, if_neg other]

theorem beginEntry_badService_gated (read : decodeRequest kind body = .badService) {r : Refuse}
    (refused : gate now.service .serviceOff = some r) :
    beginEntry now (.request kind tag body) = .sending tag (.refuse r) := by
  simp only [beginEntry, read, refused]

/-- A SERVICE that is neither off nor on is refused by the Lane Link (R146, log 24). -/
theorem beginEntry_badService (read : decodeRequest kind body = .badService) (passes : gate now.service .serviceOff = none) :
    beginEntry now (.request kind tag body) = .sending tag (.refuse (.badField 0 0)) := by
  simp only [beginEntry, read, passes]

end

theorem requestBody_none {kind : Byte} (outside : kind.toNat = 0 ∨ 0x17 < kind.toNat) : requestBody kind = none := by
  unfold requestBody
  split
  case h_24 => rfl
  all_goals omega

/-- The kinds 01 to 17 hex are the request kinds (R173). -/
theorem exists_requestBody {kind : Byte} (least : 1 ≤ kind.toNat) (most : kind.toNat ≤ 0x17) :
    ∃ shortest longest, requestBody kind = some (shortest, longest) := by
  unfold requestBody
  generalize kind.toNat = value at least most
  interval_cases value <;> exact ⟨_, _, rfl⟩

/-- What a body of a request kind reads as: a request, whose kind tells whether it is one that a service state names, or a
SERVICE that is neither off nor on (R146). -/
inductive ReadsAs (kind : Byte) (body : List Byte) : Decoded → Prop
  | badService (service : kind = 0x14) (neither : 1 < fieldAt body 0 1) : ReadsAs kind body .badService
  | request {i : Instr} (offOrOn : kind = 0x14 → fieldAt body 0 1 ≤ 1) (status : i = .status ↔ kind = 0x08)
      (keyRead : (∃ index, i = .keyRead index) ↔ kind = 0x0D) (restart : i = .restart ↔ kind = 0x17) :
      ReadsAs kind body (.request i)

theorem decodeBody_readsAs {kind : Byte} (least : 1 ≤ kind.toNat) (most : kind.toNat ≤ 0x17) (body : List Byte) :
    ReadsAs kind body (decodeBody kind body) := by
  have is (k : Byte) : kind = k ↔ kind.toNat = k.toNat := BitVec.toNat_eq
  unfold decodeBody
  split
  case h_20 service =>
    split
    · exact .request (fun _ => by omega) (by simp [is, service]) (by simp [is, service]) (by simp [is, service])
    split
    · exact .request (fun _ => by omega) (by simp [is, service]) (by simp [is, service]) (by simp [is, service])
    · exact .badService ((is _).mpr service) (by omega)
  case h_24 =>
    generalize kind.toNat = value at *
    interval_cases value <;> contradiction
  all_goals
    rename_i value
    exact .request (by simp [is, value]) (by simp [is, value]) (by simp [is, value]) (by simp [is, value])

/-- Settles O5: the checks of R163 in order, the service state's by what the body reads as. -/
theorem headEntryIsChecked : Obligations.HeadEntryIsChecked := by
  intro now kind tag body
  refine ⟨rfl, fun outside => ?_, fun least most => ?_⟩
  · simp only [beginEntry, decodeRequest, requestBody_none outside]
  obtain ⟨shortest, longest, bounds⟩ := exists_requestBody least most
  refine ⟨shortest, longest, bounds, fun bad => ?_, fun least' most' => ?_⟩
  · simp only [beginEntry, decodeRequest_badLength bounds bad]
  have reads := decodeBody_readsAs least most body
  rw [← decodeRequest_of_length bounds least' most'] at reads
  generalize read : decodeRequest kind body = decoded at reads
  cases reads with
  | badService service neither =>
    subst service
    refine ⟨nofun, fun _ => ⟨fun starting => ?_, fun halted _ _ => ?_, fun zeroized => ?_,
      fun _ offOrOn => ?_, fun takes _ _ => ?_⟩⟩
    · exact beginEntry_badService_gated read (starting ▸ gate_starting nofun)
    · exact beginEntry_badService_gated read (halted ▸ gate_halted nofun nofun nofun)
    · exact beginEntry_badService_gated read (zeroized ▸ gate_zeroized nofun)
    · exact absurd (offOrOn rfl) (by omega)
    · rcases takes with off | on
      · exact beginEntry_badService read (off ▸ gate_off _)
      · exact beginEntry_badService read (on ▸ gate_on _)
  | @request i offOrOn status keyRead restart =>
    refine ⟨fun is => ?_, fun other => ?_⟩
    · cases status.mpr is
      exact beginEntry_status read
    have notStatus : i ≠ .status := fun is => other (status.mp is)
    refine ⟨fun starting => ?_, fun halted notRead notRestart => ?_, fun zeroized => ?_, fun takes _ => ?_,
      fun _ service neither => absurd (offOrOn service) (by omega)⟩
    · exact beginEntry_gated read (starting ▸ gate_starting notStatus)
    · exact beginEntry_gated read (halted ▸ gate_halted notStatus (fun is => notRestart (restart.mp is))
        fun index is => notRead (keyRead.mp ⟨index, is⟩))
    · exact beginEntry_gated read (zeroized ▸ gate_zeroized notStatus)
    · refine beginEntry_handed read ?_ notStatus
      obtain off | on | ⟨halted, named⟩ := takes
      · rw [off, gate_off]
      · rw [on, gate_on]
      · rw [halted, gate_halted_named (named.symm.imp restart.mpr keyRead.mpr)]

/-! ### A request's frame from end to end (R159, R160) -/

/-- A frame whose body fits is gathered by a quiet link and joins its empty answer list. -/
theorem foldl_receive_frameOf (now : StatusReport) (kind tag : Byte) {body : List Byte} (fits : body.length ≤ 248) :
    (frameOf kind tag body).foldl (fun l b => l.receive now b) Link.quiet =
      ⟨.hunting, [.request kind tag body], beginEntry now (.request kind tag body)⟩ := by
  set length : Byte := BitVec.ofNat 8 (body.length + 2) with length_eq
  set crc := crc16 (length :: kind :: tag :: body) with crc_eq
  have size : body.length + 2 = length.toNat := by
    rw [length_eq, BitVec.toNat_ofNat, Nat.mod_eq_of_lt (by omega)]
  obtain ⟨high, low, bytes⟩ : ∃ high low, wordBytes 2 crc = [high, low] := ⟨_, _, rfl⟩
  have good : fromBytes [high, low] = crc.toNat := bytes ▸ fromBytes_wordBytes crc rfl
  have frame : frameOf kind tag body = 0xD1 :: length :: (kind :: tag :: (body ++ [high]) ++ [low]) := by
    simp [frameOf, ← length_eq, ← crc_eq, bytes]
  have started : Link.quiet.receive now 0xD1 = ⟨.atLength, [], .idle⟩ := receive_hunting rfl _
  have counted : (⟨.atLength, [], .idle⟩ : Link).receive now length = ⟨.inFrame length [], [], .idle⟩ := by
    rw [receive_atLength rfl, if_pos (by omega)]
  have gathered : (kind :: tag :: (body ++ [high])).foldl (fun (l : Link) b => l.receive now b)
      ⟨.inFrame length [], [], .idle⟩ =
      ⟨.inFrame length (kind :: tag :: (body ++ [high])), [], .idle⟩ :=
    foldl_receive_inFrame (length := length) (received := []) rfl (by simp; omega)
  have completed : (⟨.inFrame length (kind :: tag :: (body ++ [high])), [], .idle⟩ : Link).receive now low =
      (⟨.hunting, [], .idle⟩ : Link).join now kind tag body := by
    rw [receive_last (kind := kind) (tag := tag) (body := body) (crc := [high, low]) rfl (by simp) size rfl, if_pos good]
  rw [frame, List.foldl_cons, started, List.foldl_cons, counted, List.foldl_append, gathered, List.foldl_cons, List.foldl_nil,
    completed, join_eq]
  rfl

/-- Settles O11: the fields come back, and the frame is gathered and begun in SERVICE_ON. -/
theorem requestsSurviveTheLink : Obligations.RequestsSurviveTheLink := by
  intro i now kind tag body wf encoded on
  have read := decodeRequest_encodeRequest wf encoded
  refine ⟨read, ?_⟩
  rw [foldl_receive_frameOf now kind tag ((length_le_of_decodeRequest read).trans (by omega))]
  congr
  split
  · rename_i is
    subst is
    exact beginEntry_status read
  · rename_i other
    exact beginEntry_handed read (by rw [on, gate_on]) other

/-! ### The end of a reply (R161, R162) -/

section

variable {s : State}

theorem exec_replyComplete (running : s.power = .running) : exec .replyComplete s = .next s.replySent := event_running running

/-- The entry of a reply that has been sent leaves, and the next one is begun. -/
theorem replySent_begins {tag : Byte} {a : Answer} (sending : s.link.stage = .sending tag a)
    (other : s.restarting = true → a ≠ .restarting) :
    s.replySent = s.setLink (({ s.link with entries := s.link.entries.tail } : Link).beginHead s.report) := by
  have no_reset : (s.restarting && s.link.sendsRestart) ≠ true := by
    simpa [Link.sendsRestart, sending] using other
  simp only [State.replySent, if_neg no_reset, sending]

/-- The reset of a RESTART begins when its reply has been sent (R149). -/
theorem replySent_restarts {tag : Byte} (sending : s.link.stage = .sending tag .restarting)
    (restarting : s.restarting = true) :
    s.replySent = s.beginReset :=
  if_pos (by simp [Link.sendsRestart, sending, restarting])

theorem replySent_silent (silent : ∀ tag a, s.link.stage ≠ .sending tag a) (settled : s.restarting = false) :
    s.replySent = s := by
  rw [State.replySent, if_neg (by simp [settled])]
  split
  · rename_i tag a sending
    exact absurd sending (silent tag a)
  all_goals rfl

end

/-- Settles O6, by the three effects of the end of a reply. -/
theorem repliesLeaveInOrder : Obligations.RepliesLeaveInOrder := by
  intro s running
  rw [exec_replyComplete running]
  refine ⟨fun tag a e rest sending entries other => ?_, fun tag sending restarting => ?_, fun silent settled => ?_⟩
  · rw [replySent_begins sending other, entries]
    cases rest <;> rfl
  · rw [replySent_restarts sending restarting]
    rfl
  · rw [replySent_silent silent settled]

end Sys2Proof.Machine.Reception

/-! The outcomes of requests (R162 to R164): what an owner's event may leave when it refuses, what the service state refuses
first, and how an outcome becomes the reply of the head entry and its frame. -/

namespace Sys2Proof.Machine.Outcomes

open Reception RequestBytes

/-! ### What a refusal of an owner leaves (R164) -/

/-- The refusals that an owner's event gives without an effect: all but the service states' (R163) and those whose rule names
an effect (R26 to R29, R80, R82). -/
def withoutEffect : Refuse → Bool
  | .notReady => false
  | .halted => false
  | .zeroized => false
  | .imageCrc _ => false
  | .badImage _ => false
  | .conflict _ _ => false
  | .directoryFull _ _ => false
  | .keyWithdrawn _ => false
  | _ => true

/-- The refusals that end a load (R26 to R29). -/
def endsTheLoad : Refuse → Bool
  | .imageCrc _ => true
  | .badImage _ => true
  | .conflict _ _ => true
  | .directoryFull _ _ => true
  | _ => false

/-- The outcome of a request's event at its owner, as far as a refusal decides what it leaves. -/
inductive OwnOutcome (i : Instr) (s : State) : State × Answer → Prop
  /-- The request is accepted, or refused without an effect. -/
  | keeps {t : State} {a : Answer} (refused : ∀ r, a = .refuse r → t = s ∧ withoutEffect r = true) : OwnOutcome i s (t, a)
  /-- The refused commit ends the load (R26 to R29). -/
  | endsLoad {r : Refuse} (ends : endsTheLoad r = true) : OwnOutcome i s (s.setStager .idle, .refuse r)
  /-- The refused VERIFY fails the context of a tainted AUTH role (R80). -/
  | failsVerify {h : Handle} {p : Half} {n : Nat} {c : Context} (command : i = .verify h p)
      (found : s.resolveHandle h = some (n, c)) (state : c.state = .live .awaitTag) (taint : c.authTaint = true) :
      OwnOutcome i s (s.failed n c .awaitTag .keyWithdrawn false, .refuse (.keyWithdrawn .auth))
  /-- The refused SEAL fails the context of a tainted SEAL role (R82). -/
  | failsSeal {h : Handle} {v : Byte} {m : BitVec 32} {q : BitVec 16} {n : Nat} {c : Context} (command : i = .sealTag h v m q)
      (found : s.resolveHandle h = some (n, c)) (state : c.state = .live .authenticated) (taint : c.sealTaint = true) :
      OwnOutcome i s (s.failed n c .authenticated .keyWithdrawn false, .refuse (.keyWithdrawn .seal))

variable {i : Instr} {s t : State} {r : Refuse} {a : Answer}

theorem OwnOutcome.accepts (accepted : ∀ r, a ≠ .refuse r) : OwnOutcome i s (t, a) :=
  .keeps fun r refused => absurd refused (accepted r)

theorem OwnOutcome.refuses (plain : withoutEffect r = true) : OwnOutcome i s (s, .refuse r) :=
  .keeps fun _ refused => Answer.refuse.inj refused ▸ ⟨rfl, plain⟩

/-! ### The refusals of the checks -/

theorem resolveAuth_withoutEffect {slots : List Slot} {issuer : Issuer} {generation : Generation} {second : Nat}
    (refused : resolveAuth slots issuer generation second = .error r) : withoutEffect r = true := by
  unfold resolveAuth at refused
  repeat' split at refused
  all_goals cases refused <;> rfl

theorem resolveSeal_withoutEffect {slots : List Slot} {issuer : Issuer} {generation : Generation} {second : Nat}
    (refused : resolveSeal slots issuer generation second = .error r) : withoutEffect r = true := by
  unfold resolveSeal at refused
  repeat' split at refused
  all_goals cases refused <;> rfl

theorem admission_withoutEffect {lane issuer serial generation dwell auth sealKey}
    (refused : s.admission lane issuer serial generation dwell auth sealKey = .error r) : withoutEffect r = true := by
  unfold State.admission at refused
  dsimp only at refused
  repeat' split at refused
  all_goals cases refused <;> rfl

theorem checkOpen_withoutEffect {lane issuer serial generation dwell}
    (refused : s.checkOpen lane issuer serial generation dwell = .error r) : withoutEffect r = true := by
  unfold State.checkOpen at refused
  iterate 6
    split at refused
    · cases refused
      rfl
  split at refused
  · rename_i auth
    cases refused
    exact resolveAuth_withoutEffect auth
  split at refused
  · rename_i sealKey
    cases refused
    exact resolveSeal_withoutEffect sealKey
  · exact admission_withoutEffect refused

theorem requireSlot_withoutEffect {slots : List Slot} {issuer : Issuer} {generation : Generation} {role : Role}
    {required : KeyState} (refused : requireSlot slots issuer generation role required = .error r) :
    withoutEffect r = true := by
  unfold requireSlot at refused
  repeat' split at refused
  all_goals cases refused <;> rfl

theorem rolloverSlots_withoutEffect {slots : List Slot} {issuer : Issuer} {a b : Generation}
    (refused : rolloverSlots slots issuer a b = .error r) : withoutEffect r = true := by
  unfold rolloverSlots at refused
  iterate 4
    split at refused
    · rename_i slot
      cases refused
      exact requireSlot_withoutEffect slot
  cases refused

theorem planRollover_withoutEffect {issuer a b p1 p2 p3 p4}
    (refused : s.planRollover issuer a b p1 p2 p3 p4 = .error r) : withoutEffect r = true := by
  unfold State.planRollover at refused
  iterate 2
    split at refused
    · cases refused
      rfl
  split at refused
  · rename_i slots
    cases refused
    exact rolloverSlots_withoutEffect slots
  · cases refused

theorem stateRefusal_withoutEffect (state : ContextState) : withoutEffect (stateRefusal state) = true := by
  cases state <;> rfl

/-! ### The owners' events -/

theorem ownOpen_outcome (lane issuer serial generation nonce dwell) (s : State) :
    OwnOutcome i s (ownOpen lane issuer serial generation nonce dwell s) := by
  unfold ownOpen
  split
  · rename_i refused
    exact .refuses (checkOpen_withoutEffect refused)
  · exact .accepts nofun

theorem ownVerify_outcome (handle proof) (s : State) : OwnOutcome (.verify handle proof) s (ownVerify handle proof s) := by
  unfold ownVerify
  split
  · exact .refuses rfl
  split
  · exact .refuses rfl
  rename_i n c found
  split
  · exact .refuses (stateRefusal_withoutEffect c.state)
  rename_i state
  split
  · rename_i taint
    have live := not_not.mp state
    rw [Transactions.failContext_eq_failed .keyWithdrawn false (State.resolveHandle_contextAt found) live]
    exact .failsVerify rfl found live taint
  · exact .accepts nofun

theorem ownSeal_outcome (handle vehicleClass charge sequence) (s : State) :
    OwnOutcome (.sealTag handle vehicleClass charge sequence) s (ownSeal handle vehicleClass charge sequence s) := by
  unfold ownSeal
  split
  · exact .refuses rfl
  split
  · exact .refuses rfl
  rename_i n c found
  split
  · exact .refuses (stateRefusal_withoutEffect c.state)
  rename_i state
  split
  · exact .refuses rfl
  split
  · exact .refuses rfl
  split
  · rename_i taint
    have live := not_not.mp state
    rw [Transactions.failContext_eq_failed .keyWithdrawn false (State.resolveHandle_contextAt found) live]
    exact .failsSeal rfl found live taint
  · exact .accepts nofun

theorem ownPrefetch_outcome (issuer serial generation) (s : State) :
    OwnOutcome i s (ownPrefetch issuer serial generation s) := by
  unfold ownPrefetch State.prefetchResolved
  dsimp only
  iterate 2
    split
    · exact .refuses rfl
  repeat' split
  all_goals exact .accepts nofun

theorem ownStageCommit_outcome (crc) (s : State) : OwnOutcome i s (ownStageCommit crc s) := by
  unfold ownStageCommit
  split
  · exact .refuses rfl
  · exact .refuses rfl
  split
  · exact .refuses rfl
  unfold State.commit
  dsimp only
  iterate 4
    split
    · exact .endsLoad rfl
  exact .accepts nofun

theorem ownRollover_outcome (issuer a b start d1 d2 d3) (s : State) :
    OwnOutcome i s (ownRollover issuer a b start d1 d2 d3 s) := by
  unfold ownRollover
  split
  · exact .refuses rfl
  dsimp only
  split
  · exact .refuses rfl
  split
  · rename_i refused
    exact .refuses (planRollover_withoutEffect refused)
  · exact .accepts nofun

/-- What every owner's event leaves when it refuses. -/
theorem own_outcome {own : State → State × Answer} (owned : ownerOf i = some own) (s : State) : OwnOutcome i s (own s) := by
  cases i <;> simp only [ownerOf, Option.some.injEq, reduceCtorEq] at owned <;> subst owned
  case openTag => exact ownOpen_outcome ..
  case verify => exact ownVerify_outcome ..
  case sealTag => exact ownSeal_outcome ..
  case prefetch => exact ownPrefetch_outcome ..
  case stageCommit => exact ownStageCommit_outcome ..
  case rollover => exact ownRollover_outcome ..
  case collect | status | config | restart => exact .accepts nofun
  all_goals
    simp only [ownClose, ownQuery, ownPurge, ownStageBegin, ownStageChunk, ownStageAbandon, ownKeyRead, ownKeyWithdraw,
      ownRollback, ownTime, ownLanes, ownServiceOn, ownServiceOff, ownSelftest]
    repeat' split
    all_goals exact .keeps (by simp [withoutEffect])

/-! ### A request command in the running part -/

/-- A request is answered by a refusal of the Lane Link's checks, or by its owner's event (R162, R163). -/
inductive Run (i : Instr) (own : State → State × Answer) (s : State) : State → Prop
  /-- A STAGE_CHUNK of a bad length, before the service state is read (log 28). -/
  | badLength (ill : i.wellFormed = false) (length : Byte) : Run i own s (s.answered i (.refuse (.badLength length)))
  /-- Check 3 of R163. -/
  | refused {r : Refuse} (refusal : s.linkRefusal i = some r) : Run i own s (s.answered i (.refuse r))
  | taken (passes : s.linkRefusal i = none) : Run i own s ((own s).1.answered i (own s).2)

theorem exists_ownerOf (request : i.isRequest = true) : ∃ own, ownerOf i = some own :=
  Option.isSome_iff_exists.mp (ownerOf_isSome i ▸ request)

theorem exec_run {own : State → State × Answer} (owned : ownerOf i = some own) (running : s.power = .running) :
    ∃ t, exec i s = .next t ∧ Run i own s t := by
  cases wf : i.wellFormed with
  | true =>
    cases refusal : s.linkRefusal i with
    | some r => exact ⟨_, (exec_of_ownerOf owned wf s).trans (request_refused running refusal), .refused refusal⟩
    | none => exact ⟨_, (exec_of_ownerOf owned wf s).trans (request_taken running refusal), .taken refusal⟩
  | false =>
    cases i <;> simp only [Instr.wellFormed, reduceCtorEq] at wf
    case stageChunk offset bytes =>
      have ill : bytes.length = 0 ∨ 240 < bytes.length := by
        simp only [Bool.and_eq_false_iff, decide_eq_false_iff_not] at wf
        omega
      exact ⟨_, Loading.exec_stageChunk_badLength running ill offset, .badLength (i := .stageChunk offset bytes) wf _⟩
    all_goals cases owned

theorem linkRefusal_cases (refusal : s.linkRefusal i = some r) : r = .notReady ∨ r = .halted ∨ r = .zeroized := by
  unfold State.linkRefusal at refusal
  split at refusal
  · cases refusal
  · exact gate_cases refusal

/-- Settles O10: the Lane Link's refusals change nothing, and an owner's refusal leaves what `OwnOutcome` says. -/
theorem refusalsChangeNothing : Obligations.RefusalsChangeNothing := by
  intro i s t r request running ran answer
  obtain ⟨own, owned⟩ := exists_ownerOf request
  obtain ⟨t', ran', run⟩ := exec_run owned running
  cases ran.symm.trans ran'
  cases run with
  | badLength _ length =>
    cases answer
    rfl
  | refused refusal =>
    cases answer
    obtain rfl | rfl | rfl := linkRefusal_cases refusal <;> rfl
  | taken =>
    have outcome := own_outcome owned s
    generalize own s = o at outcome answer
    cases outcome with
    | keeps refused =>
      cases answer
      obtain ⟨rfl, plain⟩ := refused r rfl
      split
      case h_6 => rfl
      all_goals cases plain
    | endsLoad ends =>
      cases answer
      cases r <;> cases ends <;> rfl
    | failsVerify command found state taint =>
      cases answer
      exact ⟨_, _, _, _, found, state, rfl, .inl ⟨rfl, rfl, taint, _, command⟩⟩
    | failsSeal command found state taint =>
      cases answer
      exact ⟨_, _, _, _, found, state, rfl, .inr ⟨rfl, rfl, taint, _, _, _, command⟩⟩

/-! ### The service state's refusals (R163) -/

/-- Whether a refusal is one of those of the service states. -/
def ofServiceState : Refuse → Bool
  | .notReady => true
  | .halted => true
  | .zeroized => true
  | _ => false

/-- No owner gives a refusal of the service states. -/
theorem OwnOutcome.not_ofServiceState {o : State × Answer} (outcome : OwnOutcome i s o) (refused : o.2 = .refuse r) :
    ofServiceState r = false := by
  cases outcome with
  | keeps same =>
    obtain ⟨-, plain⟩ := same r refused
    cases r <;> cases plain <;> rfl
  | endsLoad ends =>
    cases refused
    cases r <;> cases ends <;> rfl
  | failsVerify =>
    cases refused
    rfl
  | failsSeal =>
    cases refused
    rfl

theorem hasHanded_iff (i : Instr) (l : Link) :
    l.hasHanded i = true ↔ l.stage = .handed ∧
      ∃ kind tag body rest, l.entries = .request kind tag body :: rest ∧ decodeRequest kind body = .request i := by
  simp only [Link.hasHanded, Option.isSome_iff_exists, Link.handedTag_eq_some]
  exact ⟨fun ⟨tag, handed, kind, body, rest, h⟩ => ⟨handed, kind, tag, body, rest, h⟩,
    fun ⟨handed, kind, tag, body, rest, h⟩ => ⟨tag, handed, kind, body, rest, h⟩⟩

/-- Settles O7: the gate refuses at the command what was not handed over, and no owner gives one of its refusals. -/
theorem serviceStateRefusesFirst : Obligations.ServiceStateRefusesFirst := by
  refine ⟨fun i s request wf => ?_, fun i s => hasHanded_iff i s.link, fun i s request wf running handed notZeroized => ?_⟩
  · obtain ⟨own, owned⟩ := exists_ownerOf request
    have meaning := exec_of_ownerOf owned wf s
    refine ⟨fun stopped => meaning.trans (request_stopped stopped), fun running => ?_⟩
    have refused {r} (refusal : s.linkRefusal i = some r) : Refuses i s r :=
      meaning.trans (request_refused running refusal)
    refine ⟨fun new => ⟨fun starting notStatus => refused ?_, fun halted notStatus notRestart notRead => refused ?_⟩,
      fun zeroized notStatus => refused ?_⟩
    · rw [State.linkRefusal_of_not_handed new, starting, gate_starting notStatus]
    · rw [State.linkRefusal_of_not_handed new, halted, gate_halted notStatus notRestart notRead]
    · rw [State.linkRefusal, if_neg (fun h => h.2 zeroized), zeroized, gate_zeroized notStatus]
  · obtain ⟨own, owned⟩ := exists_ownerOf request
    have taken := (exec_of_ownerOf owned wf s).trans (request_taken running (State.linkRefusal_of_handed handed notZeroized))
    have others {r} (refused : (own s).2 = .refuse r) := (own_outcome owned s).not_ofServiceState refused
    exact ⟨_, _, taken, rfl, fun is => (nomatch others is), fun is => (nomatch others is), fun is => (nomatch others is)⟩

/-! ### The reply of the head entry (R162, R164) -/

/-- The outcome of a request goes to the Lane Link and nowhere else in it. -/
theorem Run.delivers {own : State → State × Answer} (owned : ownerOf i = some own) (run : Run i own s t) :
    ∃ a, t.answer = some a ∧ t.link = s.link.deliver i a := by
  cases run with
  | badLength => exact ⟨_, rfl, rfl⟩
  | refused => exact ⟨_, rfl, rfl⟩
  | taken =>
    obtain ⟨link, -, -⟩ := own_outside owned s
    exact ⟨_, rfl, congrArg (Link.deliver · i (own s).2) link⟩

theorem deliver_handed {l : Link} {tag : Byte} (handed : l.handedTag i = some tag) (a : Answer) :
    l.deliver i a = { l with stage := .sending tag a } := by
  simp only [Link.deliver, handed]

theorem deliver_not_handed {l : Link} (new : l.hasHanded i = false) (a : Answer) : l.deliver i a = l := by
  obtain ⟨-, same⟩ | ⟨tag, handed, -⟩ := l.deliver_cases i a
  · exact same
  · simp [Link.hasHanded, handed] at new

/-- The kind of a reply tells a refusal from an acceptance (R173). -/
theorem kind_of_accepted (accepted : ¬ ∃ r, a = .refuse r) : a.kind = 0x80 := by
  cases a with
  | refuse r => exact absurd ⟨r, rfl⟩ accepted
  | _ => rfl

/-- Settles O8: the outcome is delivered to the head entry alone, and its frame carries its body between length and CRC-16. -/
theorem outcomeBecomesTheReply : Obligations.OutcomeBecomesTheReply := by
  refine ⟨fun i s request running => ?_, fun l tag a sending fits => ?_⟩
  · obtain ⟨own, owned⟩ := exists_ownerOf request
    obtain ⟨t, ran, run⟩ := exec_run owned running
    obtain ⟨a, answer, link⟩ := run.delivers owned
    refine ⟨fun kind tag body rest stage entries read => ⟨t, a, ran, answer, ?_⟩, fun new => ⟨t, ran, ?_⟩⟩
    · rw [link, deliver_handed (Link.handedTag_eq_some.mpr ⟨stage, kind, body, rest, entries, read⟩)]
    · rw [link, deliver_not_handed new]
  · have counted : (BitVec.ofNat 8 (a.body.length + 2)).toNat = a.body.length + 2 := by
      rw [BitVec.toNat_ofNat, Nat.mod_eq_of_lt (by omega)]
    refine ⟨_, a.kind, _, counted, length_wordBytes 2 _, ?_, kind_of_accepted, fromBytes_wordBytes _ rfl, ?_⟩
    · rintro ⟨r, rfl⟩
      rfl
    · simp only [Link.transmitting, sending, replyFrame, frameOf, List.cons_append]

end Sys2Proof.Machine.Outcomes

/-! COLLECT and STATUS (R168, R170): the oldest records leave the Completion Queue, and a report is read in the event that
begins its entry. -/

namespace Sys2Proof.Machine.Reports

open Loading (exec_outcome)
open Scheduling (refusedFirst_of_gate)
open Reception

theorem ownCollect_eq (count : Byte) (s : State) :
    ownCollect count s = (s.setQueue ⟨s.queue.records.drop (collectTaken count), false⟩,
      .collected (s.queue.records.take (collectTaken count)) (s.queue.records.length - collectTaken count)
        s.queue.overflow) := by
  rw [ownCollect, List.length_drop]

/-- The number of a COLLECT is clamped to 1 to 7 (R168). -/
theorem collectTaken_eq (count : Byte) :
    collectTaken count = if count.toNat = 0 then 1 else if 7 < count.toNat then 7 else count.toNat := by
  simp only [collectTaken, clamp, Nat.lt_one_iff]

/-- Settles O26, by the event of the Completion Queue. -/
theorem collectRemovesTheOldest : Obligations.CollectRemovesTheOldest := by
  intro s count
  refine ⟨refusedFirst_of_gate rfl rfl rfl rfl rfl, fun taken => ?_⟩
  rw [← collectTaken_eq]
  exact exec_outcome rfl rfl taken (ownCollect_eq count s)

/-! ### STATUS (R170) -/

theorem length_contexts (s : State) : s.contexts.length = s.places.countP fun p => p.context.isSome := by
  rw [State.contexts, List.length_filterMap_eq_countP]

theorem usedSlots_eq (slots : List Slot) : usedSlots slots = slots.countP fun x => x.held.isSome :=
  congrArg (List.countP · slots) (funext fun x => by simp [Slot.isEmpty])

/-- A STATUS is never refused (R163, R170). -/
theorem exec_status {s : State} (running : s.power = .running) :
    exec .status s = .next (s.answered .status (.status s.report)) := by
  refine request_taken (own := fun s => (s, .status s.report)) running ?_
  rw [State.linkRefusal, gate_status, ite_self]

theorem decodeRequest_status : decodeRequest 0x08 [] = .request .status := rfl

/-- Settles O27: the fields are the report's, read at the command or in the event that begins the entry. -/
theorem statusReports : Obligations.StatusReports := by
  intro s running fields
  have report : fields = s.report := by
    cases time : s.clock.time <;> simp [fields, State.report, length_contexts, usedSlots_eq, time]
  have begun (tag : Byte) : beginEntry s.report (.request 0x08 tag []) = .sending tag (.status s.report) :=
    beginEntry_status decodeRequest_status
  rw [report]
  refine ⟨exec_status running, fun c last tag received command entries inFrame bytes => ?_,
    fun tag a before tag' rest settled sending entries => ?_⟩
  · obtain ⟨-, joins⟩ := goodFramesJoinTheAnswerList c last 2 0x08 tag received [] _ s command running inFrame bytes rfl
      (RequestBytes.length_toBytes 2 _)
    rw [joins (RequestBytes.fromBytes_wordBytes (crc16 [2, 0x08, tag]) rfl), Link.requests, entries, if_pos rfl, begun]
    rfl
  · obtain ⟨begins, -⟩ := repliesLeaveInOrder s running
    rw [begins tag a before _ sending entries fun restarting => by simp [settled] at restarting]
    simp only [begun]

end Sys2Proof.Machine.Reports

/-! The bytes of replies and completion records (R171 to R176): a body is its fields laid out one after another, each with its
width, and a record is filled with zeros to 32 bytes. -/

namespace Sys2Proof.Machine.Layouts

/-! ### Fields laid out (R171) -/

@[simp] theorem laidOut_nil : laidOut [] = [] := rfl

@[simp] theorem laidOut_cons (width value : Nat) (fields : List (Nat × Nat)) :
    laidOut ((width, value) :: fields) = toBytes width value ++ laidOut fields := rfl

@[simp] theorem laidOut_append (front back : List (Nat × Nat)) : laidOut (front ++ back) = laidOut front ++ laidOut back :=
  List.flatMap_append

theorem length_laidOut (fields : List (Nat × Nat)) : (laidOut fields).length = (fields.map (·.1)).sum := by
  simp [laidOut, List.length_flatMap, RequestBytes.length_toBytes]

/-- Fields of one byte each. -/
@[simp] theorem laidOut_bytes (values : List Nat) :
    laidOut (values.map fun value => (1, value)) = values.map (BitVec.ofNat 8) := by
  induction values with
  | nil => rfl
  | cons value values ih => simp [ih, toBytes]

@[simp] theorem toBytes_one (value : Nat) : toBytes 1 value = [BitVec.ofNat 8 value] := by simp [toBytes]

/-- An absent field is zeros (R172). -/
@[simp] theorem toBytes_zero (width : Nat) : toBytes width 0 = List.replicate width 0 := by
  induction width with
  | zero => rfl
  | succ width ih => simp [toBytes, ih, List.replicate_succ]

/-- An index that is not there is FF hex (R175). -/
@[simp] theorem indexByte_eq (index : Option Nat) : indexByte index = BitVec.ofNat 8 (index.getD 0xFF) := by
  cases index <;> rfl

/-! ### Replies and records (R172 to R176) -/

/-- The 32 bytes of a record whose fields are laid out: the rest is zeros (R172, R176). -/
theorem bytes_of_fields {r : CompletionRecord} {fields : List (Nat × Nat)} (kept : r.fields = laidOut fields)
    (fits : (fields.map (·.1)).sum ≤ 32) :
    r.bytes = laidOut fields ++ List.replicate (32 - (laidOut fields).length) 0 ∧ r.bytes.length = 32 := by
  rw [CompletionRecord.bytes, padTo, kept]
  refine ⟨rfl, ?_⟩
  rw [List.length_append, List.length_replicate, length_laidOut]
  omega

/-- Settles O9: every code by its cases, every body and record as its fields one after another. -/
theorem repliesAndRecordsAreLaidOut : Obligations.RepliesAndRecordsAreLaidOut := by
  -- the codes of R171
  refine ⟨by decide, by decide, fun _ => rfl, fun _ _ => rfl, fun _ _ => rfl, by decide, by decide, by decide, by decide,
    fun _ _ => rfl, by decide, by decide, by decide, by decide, by decide, by decide, by decide, by decide, by decide,
    by decide, by decide, ?_⟩
  -- transactions, PREFETCH, COLLECT and STATUS
  refine ⟨?opened, ?verifying, ?sealing, ?closed, ?context, ?cached, ?noKey, ?dropped, ?queued, ?collected, ?status, ?_⟩
  case closed => intro state _ _ _; cases state <;> simp [Answer.body, failureBytes]
  case context =>
    intro c job
    cases held : c.state <;> simp [Answer.body, failureBytes, sealBytesOf, wordBytes, List.replicate, held]
  case cached | noKey | dropped | queued => simp [Answer.body, PrefetchOutcome.bytes]
  case status => simp [Answer.body, StatusReport.bytes, wordBytes]
  case collected => simp [Answer.body, List.flatMap_def]
  case opened | verifying | sealing => simp [Answer.body, wordBytes]
  -- keys, rollovers, the purge, time, lanes, the service state and the settings
  refine ⟨?stageBegun, ?chunkTaken, ?commitStarted, ?abandoned, ?keyAbsent, ?keyPresent, ?withdrawnOne, ?withdrawnTwo,
    ?rolloverPlanned, ?rolledBack, ?purged, ?timeTaken, ?lanes, ?service, ?configured, rfl, rfl, length_laidOut,
    ?refuse, fun r few => bytes_of_fields ?fields ?fits⟩
  case refuse => intro r; cases r <;> simp [Answer.body, Refuse.code, Refuse.detail, wordBytes]
  case fields => cases r <;> simp [CompletionRecord.fields, wordBytes]
  case fits =>
    cases r
    case committed imageId slots =>
      have short : slots.length ≤ 24 := few imageId slots rfl
      simpa [Function.comp_def] using (by omega : 1 + (4 + (1 + slots.length)) ≤ 32)
    all_goals simp
  -- the remaining replies are their fields as they stand
  all_goals simp [Answer.body, wordBytes, padTo]

end Sys2Proof.Machine.Layouts

/-! The machine: a step runs the command at the front of the queue, and every command gives a next state, in which the same
commands wait. -/

namespace Sys2Proof.Machine.Completing

open Outcomes (exec_run)

/-- A meaning gives a next state, and the commands that wait in s wait there (log 13). -/
def Completes (meaning : Host.Outcome State Fault Refusal) (s : State) : Prop :=
  ∃ t, meaning = .next t ∧ t.pending = s.pending

variable {s : State}

theorem Completes.next {t : State} (kept : t.pending = s.pending) : Completes (.next t) s := ⟨t, rfl, kept⟩

theorem Completes.event (effect : State → State) (kept : (effect s).pending = s.pending) : Completes (event effect s) s := by
  by_cases running : s.power = .running
  · exact ⟨_, event_running running, kept⟩
  · exact ⟨_, event_stopped running, rfl⟩

/-! ### Requests (R149, R162, R163) -/

/-- Without supply or in reset a request has no effect (R149). -/
theorem exec_request_stopped {i : Instr} {own : State → State × Answer} (owned : ownerOf i = some own)
    (stopped : s.power ≠ .running) : exec i s = .next s := by
  by_cases wf : i.wellFormed = true
  · exact (exec_of_ownerOf owned wf s).trans (request_stopped stopped)
  · cases i <;> simp only [Instr.wellFormed, ownerOf, reduceCtorEq, not_true_eq_false] at wf owned
    case stageChunk offset bytes =>
      have ill : (Instr.stageChunk offset bytes).wellFormed ≠ true := wf
      simp only [exec, execStageChunk, if_neg ill, event_stopped stopped]

theorem exec_request_completes {i : Instr} {own : State → State × Answer} (owned : ownerOf i = some own) :
    Completes (exec i s) s := by
  by_cases running : s.power = .running
  · obtain ⟨t, ran, run⟩ := exec_run owned running
    refine ⟨t, ran, ?_⟩
    cases run with
    | badLength | refused => rfl
    | taken =>
      obtain ⟨-, kept, -⟩ := own_outside owned s
      exact kept
  · exact ⟨s, exec_request_stopped owned running, rfl⟩

/-! ### The other commands -/

theorem replySent_pending (s : State) : s.replySent.pending = s.pending := by
  unfold State.replySent
  split
  · rfl
  split <;> rfl

theorem endReset_pending (s : State) (rate1 rate0 : Bool) : (s.endReset rate1 rate0).pending = s.pending := by
  unfold State.endReset
  dsimp only
  split <;> rfl

theorem exec_event_completes {i : Instr} (unowned : ownerOf i = none) : Completes (exec i s) s := by
  cases i <;> simp only [ownerOf, reduceCtorEq] at unowned
  -- the Lane Link
  case frameReceived => exact .event _ (by split <;> rfl)
  case frameGapTimeout => exact .event (fun s => s.setLink s.link.abandon) rfl
  case byteReceived byte => exact .event (fun s => s.setLink (s.link.receive s.report byte)) rfl
  case replyComplete => exact .event _ (replySent_pending s)
  -- timed events, readings and operations: each is a shared operation of Laws/Frames
  case laneTimeTick => exact .event (fun s => s.setClock s.clock.tick) rfl
  case windowEnd => exact .event (fun s => if s.endedSlots = [] then s else s.withdraw s.endedSlots) (by split <;> simp)
  case prefetchExpiry sequence => exact .event (fun s => s.cancelJobs (s.expires sequence)) (by simp)
  case deadlineEvent | lingerEnd | phaseDue | thermalReading | operationComplete | selftestEnd =>
    exact .event _ (by simp)
  -- supply, resets, zeroize and the factory
  case powerOn | resetNLow | zeroize => exact .next (by split <;> rfl)
  case resetEnd rate1 rate0 =>
    refine .next ?_
    split
    · exact endReset_pending s rate1 rate0
    · rfl
  case supplyLoss | provisioning => exact .next rfl

/-- Settles O2: a request is answered or finds the part stopped, and each other command has its effect or none. -/
theorem everyCommandCompletes : Obligations.EveryCommandCompletes := by
  intro i s
  show Completes (exec i s) s
  cases owned : ownerOf i with
  | none => exact exec_event_completes owned
  | some own => exact exec_request_completes owned

/-! ### A step -/

/-- Settles O1, by the two shapes of the queue. -/
theorem stepRunsFrontCommand : Obligations.StepRunsFrontCommand := by
  constructor
  · intro i rest s
    obtain ⟨empty, -⟩ | ⟨_, _, queued, ran⟩ := step_cases (s.setPending (i :: rest))
    · cases empty
    · cases queued
      exact ran
  · intro s empty
    obtain ⟨-, idle⟩ | ⟨_, _, queued, -⟩ := step_cases s
    · exact idle
    · cases empty.symm.trans queued

end Sys2Proof.Machine.Completing

/-! The changes that commands make (R149, R162, R163): what each of the 43 commands can leave of a state, said once, so that a law
of every command is a case split over the changes. -/

namespace Sys2Proof.Machine.Changes

open TableLaws (atRest arbitrate_atRest)

/-! ### What no law of the tables speaks of -/

/-- Two states with the same protected store, tables, queues and lane link; the jobs are the same beside the arbiter's marks. -/
structure Beside (s t : State) : Prop where
  link : t.link = s.link
  slots : t.slots = s.slots
  transport : t.transport = s.transport
  zeroizedMark : t.zeroizedMark = s.zeroizedMark
  stager : t.stager = s.stager
  rollovers : t.rollovers = s.rollovers
  cache : t.cache = s.cache
  places : t.places = s.places
  jobs : t.jobs.map atRest = s.jobs.map atRest
  queue : t.queue = s.queue

theorem Beside.refl (s : State) : Beside s s := by constructor <;> rfl

theorem Beside.arbitrate (s : State) : Beside s s.arbitrate := by constructor <;> simp

theorem Beside.freeUnit_arbitrate (s : State) (name : UnitName) : Beside s (s.freeUnit name).arbitrate := by
  constructor <;> simp

/-! ### The changes -/

/-- What a command can leave of a state, beside the answer to a request. -/
inductive Change (s : State) : Instr → State → Prop
  | beside {i : Instr} {t : State} (h : Beside s t) : Change s i t
  /-- A record of the Thermal Monitor or of a self-test. -/
  | posts {i : Instr} {u t : State} (r : CompletionRecord) (before : Beside s u) (after : Beside (u.post r) t) : Change s i t
  -- the Lane Link
  | hears (i : Instr) (byte : Byte) : Change s i (s.setLink (s.link.receive s.report byte))
  | abandons (i : Instr) : Change s i (s.setLink s.link.abandon)
  | replies (i : Instr) : Change s i (s.setLink (({ s.link with entries := s.link.entries.tail } : Link).beginHead s.report))
  -- the Transaction Table
  | opens {lane : Byte} {issuer : Issuer} {serial : Serial} {generation : Generation} (nonce : Half) {dwell : BitVec 16}
      {p : OpenPlan} (check : s.checkOpen lane issuer serial generation (dwellTaken dwell) = .ok p) :
      Change s (.openTag lane issuer serial generation nonce dwell) (s.takeOpen (s.newContext lane issuer serial generation nonce p) p)
  | verifies (i : Instr) (n : Nat) (h : Handle) (proof : Half) (time : Nat) :
      Change s i ((s.updateContext n fun c => { c with state := .live .verifying }).place (.verifying h proof) [.tagProof]
        time).arbitrate
  | seals (i : Instr) (n : Nat) (c : Context) (record : SealRecord) : Change s i (s.takeSeal n c record)
  | fails (i : Instr) (n : Nat) (reason : FailReason) (posted : Bool) : Change s i (s.failContext n reason posted)
  | frees (i : Instr) {n : Nat} {c : Context} (at_n : s.contextAt n = some c) : Change s i (s.freeContext n c)
  -- the Derived Key Cache
  | looks (i : Instr) (issuer : Issuer) (serial : Serial) (generation sealGeneration : Generation) :
      Change s i (s.prefetchLookups issuer serial generation sealGeneration)
  | queues (i : Instr) (issuer : Issuer) (serial : Serial) (generation sealGeneration : Generation)
      (operations : List Operation) (time : Nat) (room : prefetchJobs s.jobs < 15) :
      Change s i ((s.prefetchLookups issuer serial generation sealGeneration).place (.prefetch issuer serial) operations
        time).arbitrate
  | purges (i : Instr) (issuer : Issuer) (base : Serial) (exponent : Nat) :
      Change s i (s.setCache (s.cache.filterMap (CacheEntry.purged issuer base exponent)))
  | cancels (i : Instr) (p : Job → Bool) : Change s i (s.cancelJobs p)
  -- the Completion Queue
  | collects (i : Instr) (n : Nat) : Change s i (s.setQueue ⟨s.queue.records.drop n, false⟩)
  -- the Key Set Stager
  | stages (i : Instr) (before : ∀ l, s.stager ≠ .committing l) {v : Stager} (after : ∀ l, v ≠ .committing l) :
      Change s i (s.setStager v)
  | commits (i : Instr) (before : ∀ l, s.stager ≠ .committing l) (l : Load) (operations : List Operation) (time : Nat) :
      Change s i (((s.setStager (.committing l)).place (.keyset l [] []) operations time).arbitrate)
  -- the Directory and the Scheduler
  | withdraws {i : Instr} (writesSlots : i.writesSlots = true) (writesRollovers : i.writesRollovers = true) (found : List Nat) :
      Change s i (s.withdraw found)
  | plans {issuer : Issuer} {a b : Generation} (start : BitVec 32) (d1 d2 d3 : BitVec 16) {p1 p2 p3 p4 : Nat} {r : Rollover}
      (sound : rolloverFieldFault issuer a b d1 d2 d3 p4 = none) (plan : s.planRollover issuer a b p1 p2 p3 p4 = .ok r) :
      Change s (.rollover issuer a b start d1 d2 d3) (s.setRollovers (addRollover r s.rollovers))
  | rollsBack {issuer : Issuer} {r : Rollover} (found : findRollover s.rollovers issuer = some r) (record : CompletionRecord) :
      Change s (.rollback issuer)
        (((s.setSlots (r.undoSlots s.slots)).setRollovers (removeRollover s.rollovers issuer)).post record)
  | advances {issuer : Issuer} {r : Rollover} (found : findRollover s.rollovers issuer = some r) :
      Change s (.phaseDue issuer) (s.applyPhase r)
  -- the Service Controller
  | closesLanes (i : Instr) (mask : Byte) (indices : List Nat) : Change s i ((s.setMask mask).failEach indices .laneOff)
  | leavesService (i : Instr) (indices : List Nat) (p : Job → Bool) :
      Change s i (((s.setService .serviceOff).failEach indices .serviceOff).cancelJobs p)
  -- the Cipher Engine
  | ends {name : UnitName} {j : Job} (mem : j ∈ s.jobs) {op : Operation} (operations : j.operations = [op])
      (masterKey : Option Key) : Change s (.operationComplete name) (s.lastOperation name j op masterKey)
  | goesOn {name : UnitName} {j : Job} (mem : j ∈ s.jobs) {op next : Operation} {rest : List Operation}
      (operations : j.operations = op :: next :: rest) (masterKey : Option Key) :
      Change s (.operationComplete name) (s.middleOperation name j op (next :: rest) masterKey)
  -- resets, zeroize and the factory
  | resets (i : Instr) {t : State} (h : Beside s.clearVolatile t) : Change s i t
  | zeroizes : Change s .zeroize s.zeroized
  | provisions (key : Key) :
      Change s (.provisioning key) ((s.setTransport (some ⟨key, checkValueOf key⟩)).setZeroizedMark false)

variable {s t : State} {i : Instr}

theorem Change.refl (s : State) (i : Instr) : Change s i s := .beside (.refl s)

/-! ### The owners' events -/

theorem ownOpen_changes (s : State) (lane issuer serial generation nonce dwell) :
    Change s (.openTag lane issuer serial generation nonce dwell) (ownOpen lane issuer serial generation nonce dwell s).1 := by
  unfold ownOpen
  split
  · exact .refl s _
  · exact .opens nonce ‹_›

theorem ownVerify_changes (s : State) (i handle proof) : Change s i (ownVerify handle proof s).1 := by
  unfold ownVerify
  split
  · exact .refl s i
  split
  · exact .refl s i
  split
  · exact .refl s i
  split
  · exact .fails ..
  · exact .verifies ..

theorem ownSeal_changes (s : State) (i handle vehicleClass charge sequence) :
    Change s i (ownSeal handle vehicleClass charge sequence s).1 := by
  unfold ownSeal
  split
  · exact .refl s i
  split
  · exact .refl s i
  split
  · exact .refl s i
  split
  · exact .refl s i
  split
  · exact .refl s i
  split
  · exact .fails ..
  · exact .seals ..

theorem ownClose_changes (s : State) (i handle) : Change s i (ownClose handle s).1 := by
  unfold ownClose
  split
  · exact .refl s i
  · exact .frees i (State.resolveHandle_contextAt ‹_›)

theorem ownPrefetch_changes (s : State) (i issuer serial generation) : Change s i (ownPrefetch issuer serial generation s).1 := by
  unfold ownPrefetch
  split
  · exact .refl s i
  split
  · exact .refl s i
  split
  · exact .refl s i
  split
  · exact .refl s i
  unfold State.prefetchResolved
  dsimp only
  split
  · exact .looks ..
  split
  · exact .looks ..
  · rename_i full
    exact .queues (room := by omega) ..

theorem ownPurge_changes (s : State) (i issuer base exponent) : Change s i (ownPurge issuer base exponent s).1 := by
  unfold ownPurge
  dsimp only
  split
  · exact .refl s i
  · exact .purges ..

theorem ownStageBegin_changes (s : State) (i declared imageId) : Change s i (ownStageBegin declared imageId s).1 := by
  unfold ownStageBegin
  split
  · exact .refl s i
  all_goals
    rename_i stager
    split
    · exact .refl s i
    · exact .stages i (by simp [stager]) (by simp)

theorem ownStageChunk_changes (s : State) (i offset bytes) : Change s i (ownStageChunk offset bytes s).1 := by
  unfold ownStageChunk
  split
  · exact .refl s i
  · exact .refl s i
  rename_i stager
  split
  · exact .refl s i
  split
  · exact .refl s i
  · exact .stages i (by simp [stager]) (by simp)

theorem ownStageAbandon_changes (s : State) (i) : Change s i (ownStageAbandon s).1 := by
  unfold ownStageAbandon
  split
  · exact .refl s i
  · rename_i stager
    exact .stages i (by simp [stager]) (by simp)
  · exact .refl s i

theorem ownStageCommit_changes (s : State) (i crc) : Change s i (ownStageCommit crc s).1 := by
  unfold ownStageCommit
  split
  · exact .refl s i
  · exact .refl s i
  rename_i l stager
  have before (l : Load) : s.stager ≠ .committing l := by simp [stager]
  have ended : Change s i (s.setStager .idle) := .stages i before (by simp)
  split
  · exact .refl s i
  unfold State.commit
  dsimp only
  split
  · exact ended
  split
  · exact ended
  split
  · exact ended
  split
  · exact ended
  · exact .commits i before ..

theorem ownKeyRead_changes (s : State) (i index) : Change s i (ownKeyRead index s).1 := by
  unfold ownKeyRead
  split <;> exact .refl s i

theorem ownQuery_changes (s : State) (i handle) : Change s i (ownQuery handle s).1 := by
  unfold ownQuery
  split <;> exact .refl s i

theorem ownKeyWithdraw_changes (s : State) (issuer generation roles) :
    Change s (.keyWithdraw issuer generation roles) (ownKeyWithdraw issuer generation roles s).1 := by
  unfold ownKeyWithdraw
  dsimp only
  split
  · exact .refl s _
  split
  · exact .refl s _
  split
  · exact .refl s _
  · exact .withdraws rfl rfl _

theorem ownRollover_changes (s : State) (issuer a b start d1 d2 d3) :
    Change s (.rollover issuer a b start d1 d2 d3) (ownRollover issuer a b start d1 d2 d3 s).1 := by
  unfold ownRollover
  split
  · exact .refl s _
  dsimp only
  split
  · exact .refl s _
  split
  · exact .refl s _
  · exact .plans start d1 d2 d3 ‹_› ‹_›

theorem ownRollback_changes (s : State) (issuer) : Change s (.rollback issuer) (ownRollback issuer s).1 := by
  unfold ownRollback
  split
  · exact .refl s _
  split
  · exact .refl s _
  · exact .rollsBack ‹_› _

theorem ownTime_changes (s : State) (i value) : Change s i (ownTime value s).1 := by
  unfold ownTime
  repeat' split
  all_goals exact .beside (by constructor <;> rfl)

theorem ownLanes_changes (s : State) (i setMask clearMask) : Change s i (ownLanes setMask clearMask s).1 := by
  unfold ownLanes
  split
  · exact .refl s i
  · exact .closesLanes ..

theorem ownServiceOn_changes (s : State) (i) : Change s i (ownServiceOn s).1 := by
  unfold ownServiceOn
  repeat' split
  all_goals exact .beside (by constructor <;> rfl)

theorem ownServiceOff_changes (s : State) (i) : Change s i (ownServiceOff s).1 := by
  unfold ownServiceOff
  split
  · exact .leavesService ..
  · exact .refl s i

theorem ownSelftest_changes (s : State) (i) : Change s i (ownSelftest s).1 := by
  unfold ownSelftest
  repeat' split
  all_goals exact .beside (by constructor <;> rfl)

/-- Every owner's event makes one of the changes. -/
theorem own_changes {own : State → State × Answer} (owner : ownerOf i = some own) (s : State) : Change s i (own s).1 := by
  cases i <;> simp only [ownerOf, Option.some.injEq, reduceCtorEq] at owner <;> subst owner
  case openTag => exact ownOpen_changes ..
  case verify => exact ownVerify_changes ..
  case sealTag => exact ownSeal_changes ..
  case close => exact ownClose_changes ..
  case query => exact ownQuery_changes ..
  case prefetch => exact ownPrefetch_changes ..
  case purge => exact ownPurge_changes ..
  case collect => exact .collects ..
  case status => exact .refl s _
  case stageBegin => exact ownStageBegin_changes ..
  case stageChunk => exact ownStageChunk_changes ..
  case stageCommit => exact ownStageCommit_changes ..
  case stageAbandon => exact ownStageAbandon_changes ..
  case keyRead => exact ownKeyRead_changes ..
  case keyWithdraw => exact ownKeyWithdraw_changes ..
  case rollover => exact ownRollover_changes ..
  case rollback => exact ownRollback_changes ..
  case time => exact ownTime_changes ..
  case lanes => exact ownLanes_changes ..
  case serviceOn => exact ownServiceOn_changes ..
  case serviceOff => exact ownServiceOff_changes ..
  case config | restart => exact .beside (by constructor <;> rfl)
  case selftest => exact ownSelftest_changes ..

/-! ### The other events -/

theorem replySent_changes (s : State) (i) : Change s i s.replySent := by
  unfold State.replySent
  split
  · exact .resets i (by constructor <;> rfl)
  split
  · exact .replies i
  · exact .refl s i
  · exact .refl s i

theorem deadlineEvent_changes (s : State) (i index) : Change s i (State.deadlineEvent index s) := by
  unfold State.deadlineEvent
  split
  · split
    · exact .fails ..
    · exact .refl s i
  · exact .refl s i

theorem lingerEnd_changes (s : State) (i index) : Change s i (State.lingerEnd index s) := by
  unfold State.lingerEnd
  split
  · split
    · exact .frees i ‹_›
    · exact .refl s i
  · exact .refl s i

theorem phaseDue_changes (s : State) (issuer) : Change s (.phaseDue issuer) (State.phaseDue issuer s) := by
  unfold State.phaseDue
  split
  · split
    · exact .advances ‹_›
    · exact .refl s _
  · exact .refl s _

theorem takeReading_changes (s : State) (i celsius) : Change s i (State.takeReading celsius s) := by
  unfold State.takeReading
  dsimp only
  split
  · exact .beside (by constructor <;> rfl)
  · refine .posts _ ?_ (.refl _)
    unfold State.actOnEngine
    split <;> constructor <;> simp

theorem endTest_changes (s : State) (i fault0 fault1) : Change s i (State.endTest fault0 fault1 s) := by
  unfold State.endTest
  split
  · exact .refl s i
  · exact .posts _ (by constructor <;> rfl) (.arbitrate _)

theorem operationComplete_changes (s : State) (name) :
    Change s (.operationComplete name) (State.operationComplete name s) := by
  unfold State.operationComplete
  split
  · split
    · exact .beside (.freeUnit_arbitrate s name)
    · rename_i found
      have mem := List.mem_of_find?_eq_some found
      split
      · exact .beside (.freeUnit_arbitrate s name)
      · exact .ends mem ‹_› _
      · exact .goesOn mem ‹_› _
  · exact .refl s _
  · exact .refl s _

theorem endReset_changes (s : State) (i rate1 rate0) : Change s i (s.endReset rate1 rate0) := by
  unfold State.endReset
  dsimp only
  split <;> exact .resets i (by constructor <;> rfl)

/-! ### Every command -/

/-- A command makes a change, and a request may be answered beside it. -/
def Effect (i : Instr) (s t : State) : Prop := ∃ u, Change s i u ∧ (t = u ∨ ∃ a, t = u.answered i a)

theorem Change.effect (h : Change s i t) : Effect i s t := ⟨t, h, .inl rfl⟩

theorem Change.effect_answered (h : Change s i t) (a : Answer) : Effect i s (t.answered i a) := ⟨t, h, .inr ⟨a, rfl⟩⟩

theorem Effect.refl (i : Instr) (s : State) : Effect i s s := (Change.refl s i).effect

theorem event_effect {effect : State → State} (does : Effect i s (effect s)) (h : event effect s = .next t) : Effect i s t := by
  unfold event at h
  split at h <;> cases h
  · exact does
  · exact .refl i s

theorem request_effect {own : State → State × Answer} (owner : ownerOf i = some own) (h : request i own s = .next t) :
    Effect i s t := by
  unfold request at h
  split at h
  · split at h <;> cases h
    · exact (Change.refl s i).effect_answered _
    · exact (own_changes owner s).effect_answered _
  · cases h
    exact .refl i s

/-- A request, a STAGE_CHUNK that is not well formed included (log 28). -/
theorem exec_request_effect {own : State → State × Answer} (owner : ownerOf i = some own) (h : exec i s = .next t) :
    Effect i s t := by
  by_cases wf : i.wellFormed = true
  · exact request_effect owner (exec_of_ownerOf owner wf s ▸ h)
  · cases i <;> simp only [Instr.wellFormed, ownerOf, reduceCtorEq, not_true_eq_false] at wf owner
    case stageChunk offset bytes =>
      have ill : (Instr.stageChunk offset bytes).wellFormed ≠ true := wf
      simp only [exec, execStageChunk, if_neg ill] at h
      exact event_effect (effect := fun s => s.answered _ _) ((Change.refl s _).effect_answered _) h

theorem exec_event_effect (unowned : ownerOf i = none) (h : exec i s = .next t) : Effect i s t := by
  cases i <;> simp only [ownerOf, reduceCtorEq] at unowned
  case frameReceived last =>
    refine event_effect ?_ h
    split
    · exact (Change.hears _ last).effect
    · exact .refl _ s
  case frameGapTimeout => exact event_effect (effect := fun s => s.setLink s.link.abandon) (Change.abandons _).effect h
  case byteReceived byte =>
    exact event_effect (effect := fun s => s.setLink (s.link.receive s.report byte)) (Change.hears _ byte).effect h
  case replyComplete => exact event_effect (replySent_changes s _).effect h
  case laneTimeTick =>
    exact event_effect (effect := fun s => s.setClock s.clock.tick) (Change.beside (by constructor <;> rfl)).effect h
  case deadlineEvent index => exact event_effect (deadlineEvent_changes s _ index).effect h
  case lingerEnd index => exact event_effect (lingerEnd_changes s _ index).effect h
  case windowEnd =>
    refine event_effect (effect := fun s => if s.endedSlots = [] then s else s.withdraw s.endedSlots) ?_ h
    split
    · exact .refl _ s
    · exact (Change.withdraws rfl rfl _).effect
  case phaseDue issuer => exact event_effect (phaseDue_changes s issuer).effect h
  case prefetchExpiry sequence =>
    exact event_effect (effect := fun s => s.cancelJobs (s.expires sequence)) (Change.cancels _ _).effect h
  case thermalReading celsius => exact event_effect (takeReading_changes s _ celsius).effect h
  case operationComplete unit => exact event_effect (operationComplete_changes s unit).effect h
  case selftestEnd fault0 fault1 => exact event_effect (endTest_changes s _ fault0 fault1).effect h
  case powerOn =>
    cases h
    split
    · exact (Change.resets _ (by constructor <;> rfl)).effect
    · exact .refl _ s
  case supplyLoss =>
    cases h
    exact (Change.resets _ (by constructor <;> rfl)).effect
  case resetNLow =>
    cases h
    split
    · exact .refl _ s
    · exact (Change.resets _ (by constructor <;> rfl)).effect
  case resetEnd rate1 rate0 =>
    cases h
    split
    · exact (endReset_changes s _ rate1 rate0).effect
    · exact .refl _ s
  case zeroize =>
    cases h
    split
    · exact .refl _ s
    · exact Change.zeroizes.effect
  case provisioning key =>
    cases h
    exact (Change.provisions key).effect

/-- Every command makes one of the changes. -/
theorem exec_effect (h : exec i s = .next t) : Effect i s t := by
  cases owner : ownerOf i with
  | none => exact exec_event_effect owner h
  | some own => exact exec_request_effect owner h

/-- A law of the tables that every change keeps is kept by every step: an answer, the arbiter's marks and the commands that wait
are beside it. -/
theorem step_keeps {P : State → Prop} (h : step s = .next t) (law : P s) (dequeued : ∀ rest, P s → P (s.setPending rest))
    (changed : ∀ s i t, P s → Change s i t → P t) (answered : ∀ t i a, P t → P (t.answered i a)) : P t := by
  rcases step_cases s with ⟨-, idle⟩ | ⟨i, rest, -, runs⟩
  · cases idle.symm.trans h
    exact law
  · obtain ⟨u, change, rfl | ⟨a, rfl⟩⟩ := exec_effect (runs.symm.trans h)
    · exact changed _ _ _ (dequeued rest law) change
    · exact answered _ _ _ (changed _ _ _ (dequeued rest law) change)

end Sys2Proof.Machine.Changes

/-! The protected store (R3, R5, R18 to R20, R38): which commands write the slots, the rollover records, the transport key and
the ZEROIZED mark. -/

namespace Sys2Proof.Machine.ProtectedStore

open Changes

/-- What the protected store holds of the slots: each slot's key and install epoch. -/
def stored (slots : List Slot) : List (Option MasterKey × Epoch) := slots.map fun x => (x.held, x.epoch)

theorem stored_modify (slots : List Slot) (i : Nat) {f : Slot → Slot} (held : ∀ x, (f x).held = x.held)
    (epoch : ∀ x, (f x).epoch = x.epoch) : stored (slots.modify i f) = stored slots := by
  refine List.ext_getElem? fun n => ?_
  simp only [stored, List.getElem?_map, List.getElem?_modify]
  split <;> cases slots[n]? <;> simp [held, epoch]

@[simp] theorem stored_lowerBound (slots : List Slot) (i : Nat) : stored (lowerBound slots i) = stored slots :=
  stored_modify slots i (fun _ => rfl) fun _ => rfl

@[simp] theorem stored_raiseBound (slots : List Slot) (i : Nat) : stored (raiseBound slots i) = stored slots :=
  stored_modify slots i (fun _ => rfl) fun _ => rfl

@[simp] theorem stored_unbind (c : Context) (slots : List Slot) : stored (unbind c slots) = stored slots := by
  unfold unbind
  dsimp only
  split <;> split <;> simp

theorem stored_freeContext (s : State) (i : Nat) (c : Context) : stored (s.freeContext i c).slots = stored s.slots :=
  stored_unbind c s.slots

theorem stored_takeOpen (s : State) (c : Context) (p : OpenPlan) : stored (s.takeOpen c p).slots = stored s.slots := by
  simp [State.takeOpen]

theorem stored_clearVolatile (s : State) : stored s.clearVolatile.slots = stored s.slots := by
  simp [stored, State.clearVolatile]

variable {i : Instr} {s t : State}

/-- An event that moves no key between slots leaves them alone; OPEN, the end of a context and a reset change bound counts
only (R3, R5). -/
theorem change_stored (change : Change s i t) (writes : i.writesSlots = false) : stored t.slots = stored s.slots := by
  cases change with
  | beside h => rw [h.slots]
  | posts r before after => simp [after.slots, before.slots]
  | opens => exact stored_takeOpen ..
  | frees => exact stored_freeContext ..
  | resets _ h => rw [h.slots, stored_clearVolatile]
  | withdraws writesSlots => cases writesSlots.symm.trans writes
  | rollsBack | advances | ends | goesOn | zeroizes => cases writes
  | _ => simp

/-- The rollover records change with a ROLLOVER, a ROLLBACK, a phase, a withdrawal and zeroize only (R38). -/
theorem change_rollovers (change : Change s i t) (writes : i.writesRollovers = false) : t.rollovers = s.rollovers := by
  cases change with
  | beside h => exact h.rollovers
  | posts r before after => simp [after.rollovers, before.rollovers]
  | resets _ h => exact h.rollovers
  | withdraws _ writesRollovers => cases writesRollovers.symm.trans writes
  | rollsBack | advances | plans | zeroizes => cases writes
  | _ => simp

/-- The transport key and the mark change with zeroize and in the factory only (R18, R20). -/
theorem change_transport (change : Change s i t) (writes : i.writesTransport = false) :
    t.transport = s.transport ∧ t.zeroizedMark = s.zeroizedMark := by
  cases change with
  | beside h => exact ⟨h.transport, h.zeroizedMark⟩
  | posts r before after => simp [after.transport, after.zeroizedMark, before.transport, before.zeroizedMark]
  | resets _ h => exact ⟨h.transport, h.zeroizedMark⟩
  | provisions | zeroizes => cases writes
  | _ => simp

/-- Settles O60, by the change that a command makes. -/
theorem protectedStoreWriters : Obligations.ProtectedStoreWriters := by
  intro i s t h
  obtain ⟨u, change, beside⟩ := exec_effect h
  have slots : t.slots = u.slots := by obtain rfl | ⟨a, rfl⟩ := beside <;> simp
  have rollovers : t.rollovers = u.rollovers := by obtain rfl | ⟨a, rfl⟩ := beside <;> simp
  have transport : t.transport = u.transport ∧ t.zeroizedMark = u.zeroizedMark := by
    obtain rfl | ⟨a, rfl⟩ := beside <;> simp
  refine ⟨fun writes => ?_, fun writes => rollovers.trans (change_rollovers change writes), fun writes => ?_⟩
  · exact slots ▸ change_stored change writes
  · rw [transport.1, transport.2]
    exact change_transport change writes

end Sys2Proof.Machine.ProtectedStore

/-! The laws of the Directory and the Scheduler (R1, R2, R38, R39): slots lose keys in a withdrawal, take keys that fit in an
install, and change the states of one record's four slots in a phase and in a ROLLBACK. -/

namespace Sys2Proof.Machine.DirectoryLaws

open Changes ProtectedStore
open Loading (FitsDirectory Clash firstConflict_eq_none_iff)
open Scheduling (Restates StandsAs lawful_iff restates_undoSlots standsAs_undoSlots findRollover_eq_none_iff
  issuer_of_findRollover)

/-! ### The laws on slots and records -/

/-- The laws of some slots and of some rollover records that name them. -/
structure Lawful (slots : List Slot) (rollovers : List Rollover) : Prop where
  unique : triplesUnique slots
  oneActive : oneActiveSeal slots
  stands : ∀ r ∈ rollovers, r.lawful slots
  ascending : (rollovers.map (·.issuer.toNat)).Pairwise (· < ·)

theorem directoryLawful_iff (s : State) : s.directoryLawful ↔ Lawful s.slots s.rollovers :=
  ⟨fun ⟨unique, oneActive, stands, ascending⟩ => ⟨unique, oneActive, stands, ascending⟩,
    fun ⟨unique, oneActive, stands, ascending⟩ => ⟨unique, oneActive, stands, ascending⟩⟩

/-- A record stands as long as the slots that it names hold the same keys. -/
theorem lawful_of_held {r : Rollover} {slots after : List Slot} (h : r.lawful slots)
    (held : ∀ n k, heldAt slots n = some k → k.issuer = r.issuer → n ∈ [r.aAuth, r.aSeal, r.bAuth, r.bSeal] →
      heldAt after n = some k) : r.lawful after := by
  have keeps {n generation role state} (mem : n ∈ [r.aAuth, r.aSeal, r.bAuth, r.bSeal])
      (h : holds slots n r.issuer generation role state) : holds after n r.issuer generation role state := by
    obtain ⟨k, at_n, issuer, rest⟩ := h
    exact ⟨k, held n k at_n issuer mem, issuer, rest⟩
  obtain ⟨reached, apart, aAuth, aSeal, bAuth, bSeal⟩ := h
  exact ⟨reached, apart, keeps (by simp) aAuth, keeps (by simp) aSeal, keeps (by simp) bAuth, keeps (by simp) bSeal⟩

/-- The laws of the slots are kept when keys only leave. -/
theorem Lawful.of_fewer {slots after : List Slot} {rollovers records : List Rollover} (laws : Lawful slots rollovers)
    (fewer : ∀ n k, heldAt after n = some k → heldAt slots n = some k) (sub : records.Sublist rollovers)
    (stands : ∀ r ∈ records, r.lawful after) : Lawful after records where
  unique i j x y hx hy := laws.unique i j x y (fewer i x hx) (fewer j y hy)
  oneActive i j x y hx hy := laws.oneActive i j x y (fewer i x hx) (fewer j y hy)
  stands := stands
  ascending := laws.ascending.sublist (sub.map _)

theorem heldAt_of_stored {slots after : List Slot} (same : stored after = stored slots) (n : Nat) :
    heldAt after n = heldAt slots n := by
  have at_n := congrArg (·[n]?) same
  simp only [stored, List.getElem?_map] at at_n
  unfold heldAt
  cases hx : slots[n]? <;> cases hy : after[n]? <;> simp_all

/-- The laws speak of keys, not of bound counts. -/
theorem Lawful.of_stored {slots after : List Slot} {rollovers : List Rollover} (laws : Lawful slots rollovers)
    (same : stored after = stored slots) : Lawful after rollovers :=
  laws.of_fewer (fun n _ h => heldAt_of_stored same n ▸ h) (.refl _) fun r mem =>
    lawful_of_held (laws.stands r mem) fun n _ h _ _ => (heldAt_of_stored same n).trans h

/-! ### Withdrawal (R10, R13) -/

theorem names_eq_false_iff (found : List Nat) (r : Rollover) :
    r.names found = false ↔ ∀ n ∈ [r.aAuth, r.aSeal, r.bAuth, r.bSeal], n ∉ found := by
  simp [Rollover.names, and_assoc]

/-- A withdrawal empties slots and removes the records that name them. -/
theorem Lawful.withdraw {slots : List Slot} {rollovers : List Rollover} (laws : Lawful slots rollovers) (found : List Nat) :
    Lawful (emptyEach slots found) (rollovers.filter fun r => !r.names found) := by
  refine laws.of_fewer (fun n k h => ?_) List.filter_sublist fun r mem => ?_
  · rw [heldAt_emptyEach] at h
    split at h
    · cases h
    · exact h
  · obtain ⟨mem, spared⟩ := List.mem_filter.mp mem
    have spared := (names_eq_false_iff found r).mp (by simpa using spared)
    refine lawful_of_held (laws.stands r mem) fun n k h _ named => ?_
    rw [heldAt_emptyEach, if_neg (spared n named), h]

/-! ### Install (R33) -/

theorem heldAt_install {slots : List Slot} {i : Nat} (empty : slots.findIdx? Slot.isEmpty = some i) (r : ImageRecord)
    (key : Key) (n : Nat) :
    heldAt (slots.modify i fun x => x.install r key) n =
      if i = n then some ⟨r.stateOf, r.issuer, r.generation, r.roleOf, r.notBefore, r.notAfter, key, r.checkValue⟩
      else heldAt slots n := by
  obtain ⟨lt, -, -⟩ := List.findIdx?_eq_some_iff_getElem.mp empty
  simp only [heldAt, List.getElem?_modify]
  split
  · subst i
    simp [List.getElem?_eq_getElem lt, Slot.install]
  · simp

theorem heldAt_lowestEmpty {slots : List Slot} {i : Nat} (empty : slots.findIdx? Slot.isEmpty = some i) :
    heldAt slots i = none := by
  obtain ⟨lt, isEmpty, -⟩ := List.findIdx?_eq_some_iff_getElem.mp empty
  simpa [heldAt, List.getElem?_eq_getElem lt, Slot.isEmpty] using isEmpty

section
variable {slots : List Slot} {rollovers : List Rollover} {r : ImageRecord} {i : Nat}

/-- The install of a record that conflicts with no slot (R28, R33). -/
theorem Lawful.install (laws : Lawful slots rollovers) (fits : FitsDirectory slots r)
    (empty : slots.findIdx? Slot.isEmpty = some i) (key : Key) :
    Lawful (slots.modify i fun x => x.install r key) rollovers where
  unique := by
    intro m n x y hx hy issuer generation role
    rw [heldAt_install empty] at hx hy
    split at hx <;> split at hy
    · simp_all
    · cases hx
      exact absurd ⟨generation.symm, role.symm⟩ (fits n y hy issuer.symm).1
    · cases hy
      exact absurd ⟨generation, role⟩ (fits m x hx issuer).1
    · exact laws.unique m n x y hx hy issuer generation role
  oneActive := by
    intro m n x y hx hy sealX sealY activeX activeY issuer
    rw [heldAt_install empty] at hx hy
    split at hx <;> split at hy
    · simp_all
    · cases hx
      exact absurd ⟨sealX, activeX, sealY, activeY⟩ (fits n y hy issuer.symm).2
    · cases hy
      exact absurd ⟨sealY, activeY, sealX, activeX⟩ (fits m x hx issuer).2
    · exact laws.oneActive m n x y hx hy sealX sealY activeX activeY issuer
  stands record mem := by
    refine lawful_of_held (laws.stands record mem) fun n k h _ _ => ?_
    have ne : i ≠ n := by
      rintro rfl
      cases (heldAt_lowestEmpty empty).symm.trans h
    rw [heldAt_install empty, if_neg ne, h]
  ascending := laws.ascending

/-- A record that clashes with no record installed before it still fits. -/
theorem fitsDirectory_install {next : ImageRecord} (fits : FitsDirectory slots next) (apart : ¬ Clash r next)
    (empty : slots.findIdx? Slot.isEmpty = some i) (key : Key) :
    FitsDirectory (slots.modify i fun x => x.install r key) next := by
  intro n k h issuer
  rw [heldAt_install empty] at h
  split at h
  · cases h
    obtain ⟨triple, active⟩ := not_or.mp apart
    exact ⟨fun ⟨generation, role⟩ => triple ⟨issuer, generation, role⟩,
      fun ⟨sealNext, activeNext, sealKey, activeKey⟩ => active ⟨issuer, sealKey, sealNext, activeKey, activeNext⟩⟩
  · exact fits n k h issuer

/-- The install of records that conflict neither with each other nor with a slot (R28, R33). -/
theorem Lawful.installEach {installs : List (ImageRecord × Key)} (laws : Lawful slots rollovers)
    (apart : (installs.map Prod.fst).Pairwise fun a b => ¬ Clash a b)
    (fits : ∀ r ∈ installs.map Prod.fst, FitsDirectory slots r) : Lawful (installEach slots installs).1 rollovers := by
  induction installs generalizing slots with
  | nil => exact laws
  | cons install rest ih =>
    obtain ⟨r, key⟩ := install
    obtain ⟨apartFirst, apartRest⟩ := List.pairwise_cons.mp apart
    obtain ⟨fitsFirst, fitsRest⟩ := List.forall_mem_cons.mp fits
    simp only [Machine.installEach]
    split
    · exact laws
    · rename_i i empty
      exact ih (laws.install fitsFirst empty key) apartRest fun next mem =>
        fitsDirectory_install (fitsRest next mem) (apartFirst next mem) empty key

end

theorem map_fst_zip_sublist {α β : Type} (xs : List α) (ys : List β) : ((xs.zip ys).map Prod.fst).Sublist xs := by
  induction xs generalizing ys with
  | nil => simp
  | cons x xs ih =>
    cases ys with
    | nil => simp
    | cons y ys => exact (ih ys).cons_cons x

/-- The re-check at the end of a commit lets in only records that fit (R32, R33). -/
theorem completeCommit_lawful {s : State} (laws : Lawful s.slots s.rollovers) (l : Load) (keys : List Key)
    (results : List Bool) : Lawful (s.completeCommit l keys results).slots s.rollovers := by
  unfold State.completeCommit
  dsimp only
  split
  · simpa using laws
  split
  · rename_i passes
    obtain ⟨-, apart, fits⟩ := (firstConflict_eq_none_iff s.slots [] l.records).mp (by simpa using passes.1)
    have installed := map_fst_zip_sublist l.records keys
    simpa using laws.installEach (apart.sublist installed) fun r mem => fits r (installed.subset mem)
  · simpa using laws

theorem endKeyset_lawful {s : State} (laws : Lawful s.slots s.rollovers) (work : Work) :
    Lawful (s.endKeyset work).slots s.rollovers := by
  unfold State.endKeyset
  split
  · exact completeCommit_lawful laws _ _ _
  all_goals exact laws

/-! ### Changes of key states (R3, R39) -/

theorem Restates.heldAt {changed : List Nat} {slots after : List Slot} (h : Restates changed slots after) {n : Nat}
    {y : MasterKey} (held : heldAt after n = some y) :
    ∃ x, Machine.heldAt slots n = some x ∧ y = { x with state := y.state } := by
  obtain ⟨slot, at_n, hy⟩ := Option.bind_eq_some_iff.mp held
  have lt : n < slots.length := by
    rw [← h.length]
    exact (List.getElem?_eq_some_iff.mp at_n).1
  obtain ⟨-, -, key⟩ := h.kept n _ slot (List.getElem?_eq_getElem lt) at_n
  rw [hy] at key
  obtain ⟨x, hx, same⟩ := Option.map_eq_some_iff.mp key.symm
  refine ⟨x, by simp [Machine.heldAt, List.getElem?_eq_getElem lt, hx], ?_⟩
  cases x
  cases y
  simp_all

/-- Exactly one of two key states is ACTIVE. -/
def OneActive (a b : KeyState) : Prop := (a = .active ∧ b ≠ .active) ∨ (a ≠ .active ∧ b = .active)

/-- In each phase one SEAL slot of the record is ACTIVE (R39). -/
theorem oneActive_phaseRow (reached : Nat) : OneActive (phaseRow reached).2.1 (phaseRow reached).2.2.2 := by
  unfold phaseRow OneActive
  split <;> simp

section
variable {slots after : List Slot} {rollovers : List Rollover} {r : Rollover} {row : KeyState × KeyState × KeyState × KeyState}

theorem issuer_of_named (stands : StandsAs r slots row) {n : Nat} (named : n ∈ [r.aAuth, r.aSeal, r.bAuth, r.bSeal])
    {k : MasterKey} (held : heldAt slots n = some k) : k.issuer = r.issuer := by
  have of_holds {generation role state} (h : holds slots n r.issuer generation role state) : k.issuer = r.issuer := by
    obtain ⟨x, hx, issuer, -⟩ := h
    cases hx.symm.trans held
    exact issuer
  simp only [List.mem_cons, List.not_mem_nil, or_false] at named
  obtain rfl | rfl | rfl | rfl := named
  · exact of_holds stands.aAuth
  · exact of_holds stands.aSeal
  · exact of_holds stands.bAuth
  · exact of_holds stands.bSeal

/-- The ACTIVE SEAL slot of a record's issuer is the one that its row names. -/
theorem activeSeal_of_stands (one : oneActiveSeal slots) (stands : StandsAs r slots row)
    (row_one : OneActive row.2.1 row.2.2.2) {n : Nat} {k : MasterKey} (held : heldAt slots n = some k)
    (role : k.role = .seal) (state : k.state = .active) (issuer : k.issuer = r.issuer) : n = r.aSeal ∨ n = r.bSeal := by
  have of_holds {m generation} (h : holds slots m r.issuer generation .seal .active) : n = m := by
    obtain ⟨x, hx, issuer', -, role', state'⟩ := h
    exact one n m k x held hx role role' state state' (issuer.trans issuer'.symm)
  obtain ⟨active, -⟩ | ⟨-, active⟩ := row_one
  · exact .inl (of_holds (active ▸ stands.aSeal))
  · exact .inr (of_holds (active ▸ stands.bSeal))

theorem state_of_holds {n : Nat} {issuer : Issuer} {generation : Generation} {role : Role} {state : KeyState}
    (h : holds slots n issuer generation role state) {k : MasterKey} (held : heldAt slots n = some k) : k.state = state := by
  obtain ⟨x, hx, -, -, -, state⟩ := h
  cases hx.symm.trans held
  exact state

/-- A change of the states of a record's four slots, after which one of its SEAL slots is ACTIVE as before, keeps the laws of
the slots and of the other records (R2, R39). -/
theorem Lawful.restated (laws : Lawful slots rollovers) (stands : StandsAs r slots row) (before : OneActive row.2.1 row.2.2.2)
    (restates : Restates [r.aAuth, r.aSeal, r.bAuth, r.bSeal] slots after)
    {row' : KeyState × KeyState × KeyState × KeyState} (standsAfter : StandsAs r after row')
    (afterwards : OneActive row'.2.1 row'.2.2.2) :
    triplesUnique after ∧ oneActiveSeal after ∧ ∀ x ∈ rollovers, x.issuer ≠ r.issuer → x.lawful after := by
  have other {n : Nat} (elsewhere : n ∉ [r.aAuth, r.aSeal, r.bAuth, r.bSeal]) : heldAt after n = heldAt slots n := by
    rw [heldAt, restates.other n elsewhere, heldAt]
  refine ⟨?unique, ?oneActive, ?stands⟩
  case unique =>
    intro i j x y hx hy issuer generation role
    obtain ⟨x', hx', ex⟩ := Restates.heldAt restates hx
    obtain ⟨y', hy', ey⟩ := Restates.heldAt restates hy
    rw [ex, ey] at issuer generation role
    exact laws.unique i j x' y' hx' hy' issuer generation role
  case oneActive =>
    -- an ACTIVE SEAL slot of the record's issuer is one of the record's own
    have own {n : Nat} {k : MasterKey} (held : heldAt after n = some k) (role : k.role = .seal) (state : k.state = .active)
        (issuer : k.issuer = r.issuer) : n = r.aSeal ∧ row'.2.1 = .active ∨ n = r.bSeal ∧ row'.2.2.2 = .active := by
      have mem : n ∈ [r.aAuth, r.aSeal, r.bAuth, r.bSeal] := by
        by_contra elsewhere
        obtain rfl | rfl := activeSeal_of_stands laws.oneActive stands before (other elsewhere ▸ held) role state issuer <;>
          simp at elsewhere
      have notAuth {m generation st} (h : holds after m r.issuer generation .auth st) : n ≠ m := by
        rintro rfl
        obtain ⟨x, hx, -, -, auth, -⟩ := h
        cases hx.symm.trans held
        cases auth.symm.trans role
      simp only [List.mem_cons, List.not_mem_nil, or_false] at mem
      obtain rfl | rfl | rfl | rfl := mem
      · exact absurd rfl (notAuth standsAfter.aAuth)
      · exact .inl ⟨rfl, (state_of_holds standsAfter.aSeal held).symm.trans state⟩
      · exact absurd rfl (notAuth standsAfter.bAuth)
      · exact .inr ⟨rfl, (state_of_holds standsAfter.bSeal held).symm.trans state⟩
    intro i j x y hx hy sealX sealY activeX activeY issuer
    by_cases mine : x.issuer = r.issuer
    · have atI := own hx sealX activeX mine
      have atJ := own hy sealY activeY (issuer ▸ mine)
      obtain ⟨-, no⟩ | ⟨no, -⟩ := afterwards
      · simp only [no, and_false, or_false] at atI atJ
        exact atI.1.trans atJ.1.symm
      · simp only [no, and_false, false_or] at atI atJ
        exact atI.1.trans atJ.1.symm
    · have elsewhere {n : Nat} {k : MasterKey} (held : heldAt after n = some k) (foreign : k.issuer ≠ r.issuer) :
          heldAt slots n = some k := by
        rw [← other fun named => foreign ?_]
        · exact held
        · obtain ⟨k', held', ek⟩ := Restates.heldAt restates held
          have same : k.issuer = k'.issuer := congrArg (·.issuer) ek
          exact same.trans (issuer_of_named stands named held')
      exact laws.oneActive i j x y (elsewhere hx mine) (elsewhere hy (issuer ▸ mine)) sealX sealY activeX activeY issuer
  case stands =>
    intro x mem foreign
    refine lawful_of_held (laws.stands x mem) fun n k held issuer _ => ?_
    rw [other fun named => foreign ?_]
    · exact held
    · exact issuer.symm.trans (issuer_of_named stands named held)

/-! ### Phases and ROLLBACK (R45 to R47, R51) -/

theorem restates_advanceSlots (r : Rollover) (slots : List Slot) :
    Restates [r.aAuth, r.aSeal, r.bAuth, r.bSeal] slots (r.advanceSlots slots) := by
  have same := Restates.refl [r.aAuth, r.aSeal, r.bAuth, r.bSeal] slots
  exact Restates.ite (Restates.ite (same.setKeyState (i := r.aAuth) (by simp) .draining) (r.reached = 1)
    ((same.setKeyState (i := r.bSeal) (by simp) .active).setKeyState (i := r.aSeal) (by simp) .draining)) (r.reached = 0)
    (same.setKeyState (i := r.bAuth) (by simp) .active)

/-- A phase takes the four slots down one row of R39 (R45 to R47). -/
theorem standsAs_advanceSlots (early : r.reached < 3) (apart : r.a ≠ r.b) (h : StandsAs r slots (phaseRow r.reached)) :
    StandsAs r (r.advanceSlots slots) (phaseRow (r.reached + 1)) := by
  obtain ⟨⟨ne12, ne13, ne14⟩, ⟨ne23, ne24⟩, ne34⟩ := by simpa using h.nodup apart
  obtain phase | phase | phase : r.reached = 0 ∨ r.reached = 1 ∨ r.reached = 2 := by omega
  all_goals
    rw [phase] at h
    simp only [Rollover.advanceSlots, phase, Nat.reduceAdd, Nat.reduceEqDiff, if_true, if_false]
  · simpa [phaseRow, Ne.symm ne13, Ne.symm ne23, ne34] using h.setKeyState r.bAuth .active
  · simpa [phaseRow, Ne.symm ne12, ne23, ne24, Ne.symm ne14, Ne.symm ne24, Ne.symm ne34]
      using (h.setKeyState r.bSeal .active).setKeyState r.aSeal .draining
  · simpa [phaseRow, ne12, ne13, ne14] using h.setKeyState r.aAuth .draining

end

section
variable {slots : List Slot} {rollovers : List Rollover} {issuer : Issuer} {r : Rollover}

/-- An issuer has one record (R38). -/
theorem eq_of_issuer (ascending : (rollovers.map (·.issuer.toNat)).Pairwise (· < ·)) {x y : Rollover} (hx : x ∈ rollovers)
    (hy : y ∈ rollovers) (same : x.issuer = y.issuer) : x = y := by
  have distinct : (rollovers.map (·.issuer.toNat)).Nodup := ascending.imp Nat.ne_of_lt
  exact List.inj_on_of_nodup_map distinct hx hy (congrArg BitVec.toNat same)

/-- The record of an issuer steps on, and the others stay (R44). -/
def stepped (issuer : Issuer) (rollovers : List Rollover) : List Rollover :=
  rollovers.map fun x => if x.issuer = issuer then { x with reached := x.reached + 1 } else x

theorem Lawful.advanced (laws : Lawful slots rollovers) (found : findRollover rollovers issuer = some r)
    (early : r.reached < 3) : Lawful (r.advanceSlots slots) (stepped r.issuer rollovers) := by
  have mem := List.mem_of_find?_eq_some found
  obtain ⟨-, apart, stands⟩ := (lawful_iff r slots).mp (laws.stands r mem)
  have standsAfter := standsAs_advanceSlots early apart stands
  obtain ⟨unique, oneActive, others⟩ := laws.restated stands (oneActive_phaseRow _) (restates_advanceSlots r slots)
    standsAfter (oneActive_phaseRow _)
  refine ⟨unique, oneActive, fun x hx => ?_, ?_⟩
  · obtain ⟨y, hy, rfl⟩ := List.mem_map.mp hx
    split
    · rename_i same
      obtain rfl := eq_of_issuer laws.ascending hy mem same
      exact (lawful_iff _ _).mpr ⟨early, apart, standsAfter.aAuth, standsAfter.aSeal, standsAfter.bAuth, standsAfter.bSeal⟩
    · exact others y hy ‹_›
  · have issuers : (stepped r.issuer rollovers).map (·.issuer.toNat) = rollovers.map (·.issuer.toNat) := by
      simp only [stepped, List.map_map]
      refine List.map_congr_left fun x _ => ?_
      simp only [Function.comp_apply]
      split <;> rfl
    rw [issuers]
    exact laws.ascending

theorem removeRollover_sublist (rollovers : List Rollover) (issuer : Issuer) :
    (removeRollover rollovers issuer).Sublist rollovers := List.filter_sublist

theorem Lawful.removed (laws : Lawful slots rollovers) (issuer : Issuer) : Lawful slots (removeRollover rollovers issuer) :=
  laws.of_fewer (fun _ _ h => h) (removeRollover_sublist _ _) fun x mem =>
    laws.stands x ((removeRollover_sublist _ _).subset mem)

theorem Lawful.rolledBack (laws : Lawful slots rollovers) (found : findRollover rollovers issuer = some r) :
    Lawful (r.undoSlots slots) (removeRollover rollovers issuer) := by
  have mem := List.mem_of_find?_eq_some found
  obtain ⟨reached, apart, stands⟩ := (lawful_iff r slots).mp (laws.stands r mem)
  obtain ⟨unique, oneActive, others⟩ := laws.restated stands (oneActive_phaseRow _) (restates_undoSlots r slots)
    (standsAs_undoSlots reached apart stands) (oneActive_phaseRow _)
  refine ⟨unique, oneActive, fun x hx => ?_, (laws.removed issuer).ascending⟩
  obtain ⟨hx, foreign⟩ := List.mem_filter.mp hx
  exact others x hx (by simpa [issuer_of_findRollover found] using foreign)

/-! ### ROLLOVER (R38, R41, R43) -/

theorem holds_of_requireSlot {generation : Generation} {role : Role} {required : KeyState} {n : Nat}
    (h : requireSlot slots issuer generation role required = .ok n) : holds slots n issuer generation role required := by
  unfold requireSlot at h
  split at h
  · cases h
  · rename_i m found
    obtain ⟨k, held, triple⟩ := findSlot_eq_some found
    rw [held] at h
    dsimp only at h
    split at h <;> cases h
    exact ⟨k, held, triple.1, triple.2.1, triple.2.2, ‹_›⟩

/-- A ROLLOVER that is planned names four slots in the states of phase 0, and its issuer had no record (R38 to R43). -/
theorem planned_lawful {s : State} {a b : Generation} {p1 p2 p3 p4 : Nat} (apart : a ≠ b)
    (plan : s.planRollover issuer a b p1 p2 p3 p4 = .ok r) :
    r.issuer = issuer ∧ r.lawful s.slots ∧ findRollover s.rollovers issuer = none := by
  unfold State.planRollover at plan
  split at plan
  · cases plan
  split at plan
  · cases plan
  split at plan
  · cases plan
  · rename_i unique _ _ _ _ _ _ slots
    cases plan
    unfold rolloverSlots at slots
    split at slots
    · cases slots
    split at slots
    · cases slots
    split at slots
    · cases slots
    split at slots <;> cases slots
    exact ⟨rfl, ⟨Nat.zero_le 3, apart, holds_of_requireSlot ‹_›, holds_of_requireSlot ‹_›, holds_of_requireSlot ‹_›,
      holds_of_requireSlot ‹_›⟩, unique⟩

theorem generations_apart {a b : Generation} {d1 d2 d3 : BitVec 16} {p4 : Nat}
    (sound : rolloverFieldFault issuer a b d1 d2 d3 p4 = none) : a ≠ b := by
  rintro rfl
  unfold rolloverFieldFault at sound
  split at sound
  · cases sound
  · simp at sound

theorem addRollover_perm (r : Rollover) (rollovers : List Rollover) : (addRollover r rollovers).Perm (r :: rollovers) := by
  induction rollovers with
  | nil => exact .refl _
  | cons x rest ih =>
    unfold addRollover
    split
    · exact .refl _
    · exact (ih.cons x).trans (.swap r x rest)

theorem addRollover_ascending (ascending : (rollovers.map (·.issuer.toNat)).Pairwise (· < ·))
    (new : ∀ x ∈ rollovers, x.issuer ≠ r.issuer) : ((addRollover r rollovers).map (·.issuer.toNat)).Pairwise (· < ·) := by
  induction rollovers with
  | nil => simp [addRollover]
  | cons x rest ih =>
    obtain ⟨first, others⟩ := List.pairwise_cons.mp ascending
    simp only [List.mem_map, forall_exists_index, and_imp, forall_apply_eq_imp_iff₂] at first
    have ne : x.issuer.toNat ≠ r.issuer.toNat := fun h => new x (by simp) (BitVec.eq_of_toNat_eq h)
    unfold addRollover
    split
    · rename_i lt
      refine List.pairwise_cons.mpr ⟨?_, ascending⟩
      simp only [List.mem_map, List.mem_cons, forall_exists_index, and_imp, forall_apply_eq_imp_iff₂]
      rintro y (rfl | mem)
      · exact lt
      · exact lt.trans (first y mem)
    · refine List.pairwise_cons.mpr ⟨?_, ih others fun y mem => new y (by simp [mem])⟩
      simp only [List.mem_map, forall_exists_index, and_imp, forall_apply_eq_imp_iff₂]
      intro y mem
      obtain rfl | mem := List.mem_cons.mp ((addRollover_perm r rest).subset mem)
      · omega
      · exact first y mem

theorem Lawful.planned (laws : Lawful slots rollovers) (new : r.lawful slots) (unique : findRollover rollovers r.issuer = none) :
    Lawful slots (addRollover r rollovers) where
  unique := laws.unique
  oneActive := laws.oneActive
  stands x mem := by
    obtain rfl | mem := List.mem_cons.mp ((addRollover_perm r rollovers).subset mem)
    · exact new
    · exact laws.stands x mem
  ascending := addRollover_ascending laws.ascending ((findRollover_eq_none_iff rollovers r.issuer).mp unique)

end

/-! ### Every step -/

theorem withdraw_lawful {s : State} (laws : Lawful s.slots s.rollovers) (found : List Nat) :
    Lawful (s.withdraw found).slots (s.withdraw found).rollovers := by
  simpa [State.withdraw] using laws.withdraw found

theorem applyPhase_lawful {s : State} (laws : Lawful s.slots s.rollovers) {issuer : Issuer} {r : Rollover}
    (found : findRollover s.rollovers issuer = some r) : Lawful (s.applyPhase r).slots (s.applyPhase r).rollovers := by
  unfold State.applyPhase
  dsimp only
  split
  · simpa [stepped] using laws.advanced found ‹_›
  · simpa using withdraw_lawful (s := s.setRollovers (removeRollover s.rollovers r.issuer)) (laws.removed r.issuer) _

theorem lawful_blank (n : Nat) : Lawful (List.replicate n Slot.blank) [] where
  unique i j x y hx := by cases (Resets.heldAt_blank n i).symm.trans hx
  oneActive i j x y hx := by cases (Resets.heldAt_blank n i).symm.trans hx
  stands := by simp
  ascending := by simp

/-- Every change keeps the laws of the Directory and the Scheduler. -/
theorem change_lawful {s t : State} {i : Instr} (laws : Lawful s.slots s.rollovers) (change : Change s i t) :
    Lawful t.slots t.rollovers := by
  cases change with
  | beside h => exact h.slots ▸ h.rollovers ▸ laws
  | posts r before after => simpa [after.slots, after.rollovers, before.slots, before.rollovers] using laws
  | opens => simpa using laws.of_stored (stored_takeOpen ..)
  | frees => simpa using laws.of_stored (stored_freeContext ..)
  | resets _ h =>
    rw [h.slots, h.rollovers]
    exact laws.of_stored (stored_clearVolatile s)
  | withdraws _ _ found => exact withdraw_lawful laws found
  | plans _ _ _ _ sound plan =>
    obtain ⟨rfl, new, unique⟩ := planned_lawful (generations_apart sound) plan
    exact laws.planned new unique
  | rollsBack found => simpa using laws.rolledBack found
  | advances found => exact applyPhase_lawful laws found
  | @ends _ j _ op _ masterKey =>
    simpa [State.lastOperation] using endKeyset_lawful (s := (s.setJobs (s.jobs.filter fun x =>
      !decide (x.sequence = j.sequence))).handOver j.work op masterKey) (by simpa using laws) (s.workAfter j.work op)
  | zeroizes => exact lawful_blank 64
  | _ => simpa using laws

/-- Settles O52: every change keeps the laws. -/
theorem directoryLawsAreKept : Obligations.DirectoryLawsAreKept := by
  intro s t laws h
  refine step_keeps (P := State.directoryLawful) h laws (fun rest laws => laws) (fun s i t laws change => ?_)
    (fun t i a laws => ?_)
  · exact (directoryLawful_iff t).mpr (change_lawful ((directoryLawful_iff s).mp laws) change)
  · exact (directoryLawful_iff _).mpr (by simpa using (directoryLawful_iff t).mp laws)

end Sys2Proof.Machine.DirectoryLaws

/-! Withdrawal (R10 to R14): what a withdrawal leaves of each slot, entry, context, job and record. -/

namespace Sys2Proof.Machine.Withdrawal

open TableLaws (contextAt_modify)
open Transactions (failContext_eq_failed failContext_of_dead)

/-! ### The slots (R10) -/

/-- A withdrawal empties its slots and keeps their epochs (R10). -/
theorem getElem?_emptyEach (slots : List Slot) (found : List Nat) (n : Nat) :
    (emptyEach slots found)[n]? = (slots[n]?).map fun x => if n ∈ found then ⟨none, x.epoch, 0⟩ else x := by
  induction found generalizing slots with
  | nil => simp [emptyEach]
  | cons i rest ih =>
    have step := ih (slots.modify i fun x => { x with held := none, bound := 0 })
    rw [List.getElem?_modify] at step
    simp only [emptyEach, List.foldl_cons] at step ⊢
    rw [step]
    cases slots[n]? with
    | none => simp
    | some x =>
      obtain rfl | ne := eq_or_ne i n
      · by_cases mem : i ∈ rest <;> simp [mem]
      · simp [ne, ne.symm]

/-- Of slots that hold keys, a withdrawal reaches every reference at the present epoch. -/
theorem reaches_of_held {slots : List Slot} {found : List Nat} (held : ∀ n ∈ found, (heldAt slots n).isSome = true)
    (slot : Nat) (epoch : Epoch) :
    reaches slots found slot epoch =
      decide (slot ∈ found ∧ (slots[slot]?).any (fun x => decide (x.epoch = epoch)) = true) := by
  by_cases mem : slot ∈ found
  · have heldSlot := held slot mem
    simp only [heldAt, Option.isSome_bind] at heldSlot
    cases at_slot : slots[slot]? with
    | none => simp [reaches, at_slot]
    | some x =>
      have heldX : x.held.isSome = true := by simpa [at_slot] using heldSlot
      simp [reaches, at_slot, mem, heldX]
  · simp [reaches, mem]

/-! ### Several contexts fail (R14, R84) -/

/-- A live context that has failed for a reason; another stays. -/
def failedFor (reason : FailReason) (c : Context) : Context :=
  match c.state with
  | .live l => { c with state := .failed reason l, reserved := 0 }
  | .sealed _ _ => c
  | .failed _ _ => c

/-- The record of a live context that fails (R84). -/
def failureRecord (reason : FailReason) (c : Context) : Option CompletionRecord :=
  match c.state with
  | .live l => some (.failed c.handle c.lane reason l)
  | .sealed _ _ => none
  | .failed _ _ => none

/-- The live contexts at some indices. -/
def liveAt (s : State) (indices : List Nat) : List Context :=
  indices.filterMap fun n => (s.contextAt n).filter Context.isLive

theorem pinsReleased_append (first others : List Handle) (cache : List CacheEntry) :
    pinsReleased others (pinsReleased first cache) = pinsReleased (first ++ others) cache := by
  unfold pinsReleased
  rw [List.filterMap_filterMap]
  refine List.filterMap_congr fun e _ => ?_
  cases pin : e.pin with
  | none => simp [pin]
  | some h =>
    by_cases mem : h ∈ first
    · cases e.doom <;> simp [mem]
    · simp [mem, pin]

theorem pinsReleased_nil (cache : List CacheEntry) : pinsReleased [] cache = cache := by
  unfold pinsReleased
  refine (List.filterMap_congr fun e _ => ?_).trans List.filterMap_some
  cases e.pin <;> simp

theorem jobsWithout_append (first others : List Handle) (jobs : List Job) :
    jobsWithout others (jobsWithout first jobs) = jobsWithout (first ++ others) jobs := by
  unfold jobsWithout
  rw [List.filter_filter]
  refine List.filter_congr fun j _ => ?_
  simp [Bool.and_comm]

theorem jobsWithout_nil (jobs : List Job) : jobsWithout [] jobs = jobs := by simp [jobsWithout]

/-- What the failing of several contexts leaves, each with its record (R14, R84). -/
structure FailsAll (s : State) (indices : List Nat) (reason : FailReason) (t : State) : Prop where
  contexts : ∀ m, t.contextAt m = (s.contextAt m).map fun c => if m ∈ indices then failedFor reason c else c
  cache : t.cache = pinsReleased ((liveAt s indices).map (·.handle)) s.cache
  jobs : t.jobs = jobsWithout ((liveAt s indices).map (·.handle)) s.jobs
  queue : s.service ≠ .zeroized →
    t.queue = ((liveAt s indices).filterMap (failureRecord reason)).foldl CompletionQueue.push s.queue
  service : t.service = s.service

theorem FailsAll.none (s : State) (reason : FailReason) : FailsAll s [] reason s where
  contexts m := by simp
  cache := (pinsReleased_nil _).symm
  jobs := (jobsWithout_nil _).symm
  queue _ := rfl
  service := rfl

/-- One context fails (R84). -/
theorem FailsAll.one (s : State) (n : Nat) (reason : FailReason) : FailsAll s [n] reason (s.failContext n reason true) := by
  by_cases live : ∃ c l, s.contextAt n = some c ∧ c.state = .live l
  · obtain ⟨c, l, at_n, live⟩ := live
    have mine : liveAt s [n] = [c] := by simp [liveAt, at_n, Option.filter, Context.isLive, live]
    rw [failContext_eq_failed reason true at_n live]
    refine ⟨fun m => ?_, by rw [mine]; rfl, by rw [mine]; rfl, fun sends => ?_, rfl⟩
    · rw [contextAt_modify (s := s) (n := n) rfl]
      by_cases same : n = m
      · subst same
        obtain ⟨u, place⟩ := State.contextAt_eq_some.mp at_n
        simp [place, at_n, failedFor, live]
      · simp [same, Ne.symm same]
    · simp [mine, failureRecord, live, State.failed, sends]
  · have dead : ∀ c l, s.contextAt n = some c → c.state ≠ .live l := fun c l at_n is => live ⟨c, l, at_n, is⟩
    rw [failContext_of_dead reason true dead]
    have stays (c : Context) (at_n : s.contextAt n = some c) : failedFor reason c = c ∧ c.isLive = false := by
      have := dead c
      cases state : c.state <;> simp_all [failedFor, Context.isLive]
    have mine : liveAt s [n] = [] := by
      cases at_n : s.contextAt n with
      | none => simp [liveAt, at_n]
      | some c => simp [liveAt, at_n, (stays c at_n).2]
    refine ⟨fun m => ?_, ?_, ?_, fun _ => by rw [mine]; rfl, rfl⟩
    · by_cases same : m = n
      · subst same
        cases at_m : s.contextAt m with
        | none => rfl
        | some c => simp [(stays c at_m).1]
      · simp [same]
    · rw [mine]
      exact (pinsReleased_nil _).symm
    · rw [mine]
      exact (jobsWithout_nil _).symm

/-- One context fails, and then others at other indices. -/
theorem FailsAll.cons {s t u : State} {n : Nat} {rest : List Nat} {reason : FailReason} (first : FailsAll s [n] reason t)
    (other : n ∉ rest) (others : FailsAll t rest reason u) : FailsAll s (n :: rest) reason u := by
  have same : liveAt t rest = liveAt s rest := by
    refine List.filterMap_congr fun m mem => ?_
    have ne : m ≠ n := by
      rintro rfl
      exact other mem
    simp [first.contexts m, ne]
  have both : liveAt s (n :: rest) = liveAt s [n] ++ liveAt t rest := by
    rw [same]
    exact List.filterMap_append (l := [n])
  refine ⟨fun m => ?_, ?_, ?_, fun sends => ?_, others.service.trans first.service⟩
  · rw [others.contexts, first.contexts, Option.map_map]
    refine Option.map_congr fun c _ => ?_
    by_cases now : m = n
    · subst now
      simp [other]
    · simp [now]
  · rw [others.cache, first.cache, pinsReleased_append, both, List.map_append]
  · rw [others.jobs, first.jobs, jobsWithout_append, both, List.map_append]
  · rw [others.queue (first.service ▸ sends), first.queue sends, both, List.filterMap_append, List.foldl_append]

theorem FailsAll.failEach {indices : List Nat} (distinct : indices.Nodup) (s : State) (reason : FailReason) :
    FailsAll s indices reason (s.failEach indices reason) := by
  induction indices generalizing s with
  | nil => exact .none s reason
  | cons n rest ih =>
    obtain ⟨other, distinct⟩ := List.nodup_cons.mp distinct
    exact (FailsAll.one s n reason).cons other (ih distinct _)

/-! ### The contexts that a test picks out -/

theorem filterMap_range_bind {α β : Type} (xs : List α) (f : α → Option β) :
    (List.range xs.length).filterMap (fun n => (xs[n]?).bind f) = xs.filterMap f := by
  induction xs with
  | nil => rfl
  | cons x rest ih =>
    rw [List.length_cons, List.range_succ_eq_map, List.filterMap_cons, List.filterMap_map, List.filterMap_cons, ← ih]
    rfl

/-- The contexts at the indices that a test picks out are those of the table that meet it, in order. -/
theorem filterMap_indicesWhere (s : State) (p q : Context → Bool) :
    (s.indicesWhere p).filterMap (fun n => (s.contextAt n).filter q) = s.contexts.filter fun c => q c && p c := by
  rw [State.contexts, ← filterMap_range_bind s.places, State.indicesWhere, List.filterMap_filter, List.filter_filterMap]
  refine List.filterMap_congr fun n _ => ?_
  change _ = (s.contextAt n).filter _
  cases s.contextAt n with
  | none => simp
  | some c => cases tested : p c <;> simp [tested, Option.filter]

/-! ### The effects of a withdrawal -/

section
variable {s : State} {found : List Nat}

/-- The slots, entries and contexts after a withdrawal, before any context fails (R10 to R12). -/
def reachedBy (s : State) (found : List Nat) : State :=
  ((s.setSlots (emptyEach s.slots found)).setCache (s.cache.filterMap (CacheEntry.withdrawn s.slots found))).setPlaces
    (CacheLaws.taintedPlaces s.slots found s.places)

/-- The contexts that a withdrawal fails: their job consumes a role that it taints (R12). -/
def failing (s : State) (found : List Nat) : List Context :=
  s.contexts.filter fun c => c.isLive && c.jobReached s.slots s.jobs found

theorem contextAt_reachedBy (n : Nat) :
    (reachedBy s found).contextAt n = (s.contextAt n).map (Context.tainted s.slots found) := by
  simp only [reachedBy, CacheLaws.taintedPlaces, State.contextAt, State.setPlaces_places, List.getElem?_map]
  cases s.places[n]? <;> rfl

/-- A withdrawal fails the contexts that it reaches, by ascending index. -/
theorem liveAt_reachedBy : liveAt (reachedBy s found) (s.indicesWhere (Context.jobReached s.slots s.jobs found)) =
    (failing s found).map (Context.tainted s.slots found) := by
  rw [failing, ← filterMap_indicesWhere, List.map_filterMap]
  refine List.filterMap_congr fun n _ => ?_
  rw [contextAt_reachedBy]
  cases s.contextAt n with
  | none => rfl
  | some c => cases live : c.isLive <;> simp_all [Option.filter, Context.isLive, Context.tainted]

theorem withdraw_failsAll : FailsAll (reachedBy s found) (s.indicesWhere (Context.jobReached s.slots s.jobs found))
    .keyWithdrawn ((reachedBy s found).failEach (s.indicesWhere (Context.jobReached s.slots s.jobs found)) .keyWithdrawn) :=
  .failEach ((LaneService.indicesWhere_pairwise s _).imp Nat.ne_of_lt) ..

/-- A withdrawal reaches slots, entries and contexts, fails contexts one after another, and then removes records (R14). -/
theorem withdraw_eq (s : State) (found : List Nat) : s.withdraw found =
    (((reachedBy s found).failEach (s.indicesWhere (Context.jobReached s.slots s.jobs found)) .keyWithdrawn).setRollovers
      (s.rollovers.filter fun r => !r.names found)).postAbandoned (s.rollovers.filter (Rollover.names found)) := rfl

theorem withdraw_slots (s : State) (found : List Nat) : (s.withdraw found).slots = emptyEach s.slots found := by
  simp [State.withdraw]

theorem withdraw_rollovers (s : State) (found : List Nat) :
    (s.withdraw found).rollovers = s.rollovers.filter fun r => !r.names found := by
  simp [State.withdraw]

theorem withdraw_cache (s : State) (found : List Nat) : (s.withdraw found).cache =
    pinsReleased ((failing s found).map (·.handle)) (s.cache.filterMap (CacheEntry.withdrawn s.slots found)) := by
  have cache := (withdraw_failsAll (s := s) (found := found)).cache
  rw [liveAt_reachedBy, List.map_map] at cache
  simp only [withdraw_eq, State.postAbandoned_keeps, State.setRollovers_cache]
  exact cache

theorem withdraw_jobs (s : State) (found : List Nat) :
    (s.withdraw found).jobs = jobsWithout ((failing s found).map (·.handle)) s.jobs := by
  have jobs := (withdraw_failsAll (s := s) (found := found)).jobs
  rw [liveAt_reachedBy, List.map_map] at jobs
  simp only [withdraw_eq, State.postAbandoned_keeps, State.setRollovers_jobs]
  exact jobs

theorem withdraw_contextAt (s : State) (found : List Nat) (n : Nat) : (s.withdraw found).contextAt n =
    (s.contextAt n).map fun c =>
      if c.jobReached s.slots s.jobs found = true then failedFor .keyWithdrawn (c.tainted s.slots found)
      else c.tainted s.slots found := by
  have contexts := (withdraw_failsAll (s := s) (found := found)).contexts n
  rw [contextAt_reachedBy, Option.map_map] at contexts
  have same : (s.withdraw found).contextAt n = ((reachedBy s found).failEach
      (s.indicesWhere (Context.jobReached s.slots s.jobs found)) .keyWithdrawn).contextAt n :=
    TableLaws.contextAt_congr (by simp [withdraw_eq]) n
  rw [same, contexts]
  cases at_n : s.contextAt n with
  | none => rfl
  | some c => simp [LaneService.mem_indicesWhere, at_n]

theorem postAbandoned_queue (sends : s.service ≠ .zeroized) (records : List Rollover) :
    (s.postAbandoned records).queue = (records.map fun r =>
      CompletionRecord.rolloverPhase r.issuer r.a r.b r.reached .abandoned 0).foldl CompletionQueue.push s.queue := by
  induction records generalizing s with
  | nil => rfl
  | cons r rest ih =>
    have posts : (s.post (.rolloverPhase r.issuer r.a r.b r.reached .abandoned 0)).queue =
        s.queue.push (.rolloverPhase r.issuer r.a r.b r.reached .abandoned 0) := by simp [State.post, sends]
    rw [List.map_cons, List.foldl_cons, ← posts]
    exact ih (s := s.post _) (by simpa using sends)

/-- The FAILED records come before the ABANDONED ones (R14). -/
theorem withdraw_queue (sends : s.service ≠ .zeroized) (found : List Nat) : (s.withdraw found).queue =
    ((failing s found).filterMap (failureRecord .keyWithdrawn) ++ (s.rollovers.filter (Rollover.names found)).map fun r =>
      CompletionRecord.rolloverPhase r.issuer r.a r.b r.reached .abandoned 0).foldl CompletionQueue.push s.queue := by
  have failed := withdraw_failsAll (s := s) (found := found)
  have queue := failed.queue sends
  rw [liveAt_reachedBy, List.filterMap_map] at queue
  rw [withdraw_eq, postAbandoned_queue (by rw [State.setRollovers_service, failed.service]; exact sends),
    State.setRollovers_queue, queue, List.foldl_append]
  rfl

end

/-- Settles O33: a withdrawal's places, cache, jobs and records are those of the contexts that it fails one after another. -/
theorem withdrawalEffects : Obligations.WithdrawalEffects := by
  intro s found held t reached hitAuth hitSeal fails failing
  have reachedEq (slot : Nat) (epoch : Epoch) : reached slot epoch = reaches s.slots found slot epoch :=
    (reaches_of_held held slot epoch).symm
  have failsEq (c : Context) : fails c = (c.isLive && c.jobReached s.slots s.jobs found) := by
    simp only [fails, Context.jobReached, jobOf, hitAuth, hitSeal, reachedEq]
    cases s.jobs.find? fun j => decide (j.work.owner = some c.handle) <;> rfl
  have failingEq : failing = Withdrawal.failing s found := List.filter_congr fun c _ => failsEq c
  have taintedEq (c : Context) : ({ c with
      authTaint := c.authTaint || hitAuth c, sealTaint := c.sealTaint || hitSeal c } : Context) = c.tainted s.slots found := by
    simp only [hitAuth, hitSeal, reachedEq, Context.tainted]
  refine ⟨fun n => ?_, fun n => ?_, ?_, ?_, withdraw_rollovers s found, fun sends => ?_, ?_⟩
  · exact (congrArg (·[n]?) (withdraw_slots s found)).trans (getElem?_emptyEach s.slots found n)
  · refine (withdraw_contextAt s found n).trans (Option.map_congr fun c _ => ?_)
    dsimp only
    rw [taintedEq, failsEq]
    cases state : c.state <;> simp [failedFor, Context.tainted, Context.isLive, state, hitAuth, hitSeal, reachedEq]
  · rw [failingEq]
    refine (withdraw_cache s found).trans (congrArg _ (List.filterMap_congr fun e _ => ?_))
    rw [reachedEq, CacheEntry.withdrawn]
    cases e.doom <;> cases e.pin <;> simp
  · rw [failingEq]
    exact withdraw_jobs s found
  · refine (withdraw_queue sends found).trans (congrArg (fun records => List.foldl _ _ (records ++ _)) ?_)
    rw [Withdrawal.failing, List.filterMap_filter]
    refine List.filterMap_congr fun c _ => ?_
    rw [failsEq]
    cases state : c.state <;> simp [failureRecord, Context.isLive, state]
  · refine State.eq_of_fields ?_ ?_ ?_ ?_ ?_ ?_ ?_ rfl ?_ ?_ ?_ rfl rfl rfl ?_ ?_ ?_ ?_ rfl ?_ ?_ rfl ?_ ?_ ?_ ?_ <;> simp [t]

end Sys2Proof.Machine.Withdrawal

/-! The bound counts (R1, R8, R12): a slot's bound count is the number of untainted bindings to it in the list of all of them,
which an OPEN lengthens, the end of a context shortens and a withdrawal thins out. -/

namespace Sys2Proof.Machine.BoundCounts

open Changes
open CacheLaws (KeepsInstalls keepsInstalls_raiseBound keepsInstalls_lowerBound keepsInstalls_advanceSlots
  keepsInstalls_undoSlots keepsInstalls_modify current_emptyEach taintedPlaces freeIndex_of_checkOpen)
open Scheduling (Restates restates_undoSlots)

/-! ### The untainted bindings (R8) -/

/-- The untainted bindings of a context. -/
def untainted (c : Context) : List Binding :=
  (if c.authTaint = true then [] else [c.auth]) ++ if c.sealTaint = true then [] else [c.sealKey]

/-- The untainted bindings at an index. -/
def bindingsAt (p : Place) : List Binding := p.context.elim [] untainted

/-- The untainted bindings of a table. -/
def bindingsOf (places : List Place) : List Binding := places.flatMap bindingsAt

theorem mem_untainted {c : Context} {b : Binding} :
    b ∈ untainted c ↔ (c.authTaint = false ∧ b = c.auth) ∨ (c.sealTaint = false ∧ b = c.sealKey) := by
  unfold untainted
  cases c.authTaint <;> cases c.sealTaint <;> simp

theorem mem_bindingsOf {s : State} {b : Binding} : b ∈ bindingsOf s.places ↔ ∃ c ∈ s.contexts, b ∈ untainted c := by
  simp only [bindingsOf, State.contexts, List.mem_flatMap, List.mem_filterMap]
  constructor
  · rintro ⟨⟨_, _ | c⟩, mem, named⟩
    · simp [bindingsAt] at named
    · exact ⟨c, ⟨_, mem, rfl⟩, named⟩
  · rintro ⟨c, ⟨p, mem, at_p⟩, named⟩
    exact ⟨p, mem, by simpa [bindingsAt, at_p] using named⟩

/-- The bindings counted role by role are those of the list. -/
theorem bindings_eq_countP (s : State) (i : Nat) :
    s.bindings i = (bindingsOf s.places).countP fun b => decide (b.slot = i) := by
  unfold State.bindings State.contexts bindingsOf
  induction s.places with
  | nil => rfl
  | cons p rest ih =>
    rw [List.flatMap_cons, List.countP_append, ← ih]
    obtain ⟨_, _ | c⟩ := p
    · simp [bindingsAt]
    · simp only [List.filterMap_cons, List.countP_cons, bindingsAt, Option.elim, untainted]
      cases c.authTaint <;> cases c.sealTaint <;> simp [List.countP_cons] <;> omega

/-- A change at one index exchanges its bindings for others. -/
theorem bindingsOf_modify {places : List Place} {n : Nat} {p : Place} (at_n : places[n]? = some p) (f : Place → Place) :
    (bindingsAt (f p) ++ bindingsOf places).Perm (bindingsAt p ++ bindingsOf (places.modify n f)) := by
  induction places generalizing n with
  | nil => cases at_n
  | cons q rest ih =>
    cases n with
    | zero =>
      cases at_n
      simp only [bindingsOf, List.modify_zero_cons, List.flatMap_cons, ← List.append_assoc]
      exact List.perm_append_comm.append_right _
    | succ n =>
      simp only [bindingsOf, List.modify_succ_cons, List.flatMap_cons]
      calc (bindingsAt (f p) ++ (bindingsAt q ++ bindingsOf rest)).Perm
            (bindingsAt q ++ (bindingsAt (f p) ++ bindingsOf rest)) := List.perm_append_comm_assoc ..
        _ |>.Perm (bindingsAt q ++ (bindingsAt p ++ bindingsOf (rest.modify n f))) := (ih at_n).append_left _
        _ |>.Perm (bindingsAt p ++ (bindingsAt q ++ bindingsOf (rest.modify n f))) := List.perm_append_comm_assoc ..

/-- Two tables with the same untainted bindings, in any order. -/
def SameBindings (places after : List Place) : Prop := (bindingsOf after).Perm (bindingsOf places)

theorem SameBindings.refl (places : List Place) : SameBindings places places := List.Perm.refl _

theorem SameBindings.trans {places between after : List Place} (h : SameBindings places between)
    (k : SameBindings between after) : SameBindings places after := List.Perm.trans k h

theorem SameBindings.post {places : List Place} {s : State} (h : SameBindings places s.places) (r : CompletionRecord) :
    SameBindings places (s.post r).places := by simpa using h

theorem SameBindings.releasePin {places : List Place} {s : State} (h : SameBindings places s.places) (k : Handle)
    (role : Role) : SameBindings places (s.releasePin k role).places := h

theorem SameBindings.placed {places : List Place} {s : State} (h : SameBindings places s.places) (work : Work)
    (operations : List Operation) (time : Nat) : SameBindings places (s.place work operations time).arbitrate.places := by
  simpa using h

/-- A context that changes beside its bindings and its taints. -/
theorem updateContext_sameBindings (s : State) (n : Nat) {f : Context → Context}
    (keeps : ∀ c, untainted (f c) = untainted c) : SameBindings s.places (s.updateContext n f).places := by
  cases at_n : s.places[n]? with
  | none =>
    have out : s.places.length ≤ n := by simpa using at_n
    simp [SameBindings, State.updateContext, List.modify_eq_self out]
  | some p =>
    have same : bindingsAt { p with context := p.context.map f } = bindingsAt p := by
      obtain ⟨_, _ | c⟩ := p
      · rfl
      · exact keeps c
    have exchanged := bindingsOf_modify at_n fun p => { p with context := p.context.map f }
    rw [same] at exchanged
    exact ((List.perm_append_left_iff _).mp exchanged).symm

theorem failContext_sameBindings (s : State) (n : Nat) (reason : FailReason) (posted : Bool) :
    SameBindings s.places (s.failContext n reason posted).places := by
  unfold State.failContext
  split
  · split
    · rename_i l _
      have failed := updateContext_sameBindings s n
        (f := fun c => { c with state := .failed reason l, reserved := 0 }) fun _ => rfl
      split <;> simpa using failed
    · exact .refl _
    · exact .refl _
  · exact .refl _

theorem failEach_sameBindings (s : State) (indices : List Nat) (reason : FailReason) :
    SameBindings s.places (s.failEach indices reason).places := by
  induction indices generalizing s with
  | nil => exact .refl _
  | cons n rest ih => exact (failContext_sameBindings s n reason true).trans (ih _)

/-- A withdrawal takes the bindings that it reaches out of the list (R12). -/
theorem bindingsOf_tainted (slots : List Slot) (found : List Nat) (places : List Place) :
    bindingsOf (taintedPlaces slots found places)
      = (bindingsOf places).filter fun b => !reaches slots found b.slot b.epoch := by
  unfold bindingsOf taintedPlaces
  rw [List.flatMap_map, List.filter_flatMap]
  refine List.flatMap_congr fun p _ => ?_
  obtain ⟨_, _ | c⟩ := p
  · rfl
  · simp only [bindingsAt, Option.map, Option.elim, untainted, Context.tainted]
    cases c.authTaint <;> cases c.sealTaint <;> cases reachesAuth : reaches slots found c.auth.slot c.auth.epoch <;>
      cases reachesSeal : reaches slots found c.sealKey.slot c.sealKey.epoch <;> simp [reachesAuth, reachesSeal]

/-! ### The law on slots and bindings -/

/-- The bound counts of some slots count the bindings of a list, and each of these names a slot that holds the install it saw. -/
structure Counted (slots : List Slot) (bindings : List Binding) : Prop where
  bounds : ∀ (n : Nat) (x : Slot), slots[n]? = some x → x.bound = bindings.countP fun b => decide (b.slot = n)
  current : ∀ b ∈ bindings, b.current slots

theorem boundsLawful_iff (s : State) : s.boundsLawful ↔ Counted s.slots (bindingsOf s.places) := by
  constructor
  · rintro ⟨bounds, current⟩
    refine ⟨fun n x at_n => (bounds n x at_n).trans (bindings_eq_countP s n), fun b inList => ?_⟩
    obtain ⟨c, mem, named⟩ := mem_bindingsOf.mp inList
    obtain ⟨free, rfl⟩ | ⟨free, rfl⟩ := mem_untainted.mp named
    · exact (current c mem).1 free
    · exact (current c mem).2 free
  · rintro ⟨bounds, current⟩
    refine ⟨fun n x at_n => (bounds n x at_n).trans (bindings_eq_countP s n).symm, fun c mem => ⟨fun free => ?_, fun free => ?_⟩⟩
    · exact current _ (mem_bindingsOf.mpr ⟨c, mem, mem_untainted.mpr (.inl ⟨free, rfl⟩)⟩)
    · exact current _ (mem_bindingsOf.mpr ⟨c, mem, mem_untainted.mpr (.inr ⟨free, rfl⟩)⟩)

section
variable {slots after : List Slot} {bindings others : List Binding}

theorem Counted.perm (law : Counted slots bindings) (same : others.Perm bindings) : Counted slots others where
  bounds n x at_n := (law.bounds n x at_n).trans (same.countP_eq _).symm
  current b mem := law.current b (same.subset mem)

/-- A change of the slots beside their bound counts and installs. -/
theorem Counted.withSlots (law : Counted slots bindings) (keeps : KeepsInstalls slots after)
    (bounds : ∀ (n : Nat) (y : Slot), after[n]? = some y → ∃ x, slots[n]? = some x ∧ y.bound = x.bound) :
    Counted after bindings where
  bounds n y at_n := by
    obtain ⟨x, at_n, same⟩ := bounds n y at_n
    exact same.trans (law.bounds n x at_n)
  current b mem := keeps.current (law.current b mem)

theorem Counted.restated (law : Counted slots bindings) (keeps : KeepsInstalls slots after) {changed : List Nat}
    (restates : Restates changed slots after) : Counted after bindings := by
  refine law.withSlots keeps fun n y at_n => ?_
  have lt : n < slots.length := by
    rw [← restates.length]
    exact (List.getElem?_eq_some_iff.mp at_n).1
  obtain ⟨-, bound, -⟩ := restates.kept n _ y (List.getElem?_eq_getElem lt) at_n
  exact ⟨_, List.getElem?_eq_getElem lt, bound⟩

/-- A new binding raises its slot's bound count (R8). -/
theorem Counted.raise (law : Counted slots bindings) {b : Binding} (current : b.current slots) :
    Counted (raiseBound slots b.slot) (b :: bindings) where
  bounds n y at_n := by
    rw [raiseBound, List.getElem?_modify] at at_n
    obtain ⟨x, before, rfl⟩ := Option.map_eq_some_iff.mp at_n
    rw [List.countP_cons, ← law.bounds n x before]
    by_cases same : b.slot = n <;> simp [same]
  current a mem := by
    obtain rfl | mem := List.mem_cons.mp mem
    · exact (keepsInstalls_raiseBound slots _).current current
    · exact (keepsInstalls_raiseBound slots _).current (law.current a mem)

/-- A binding that counts no longer lowers its slot's bound count (R8). -/
theorem Counted.lower {b : Binding} (law : Counted slots (b :: bindings)) : Counted (lowerBound slots b.slot) bindings where
  bounds n y at_n := by
    rw [lowerBound, List.getElem?_modify] at at_n
    obtain ⟨x, before, rfl⟩ := Option.map_eq_some_iff.mp at_n
    have counted := law.bounds n x before
    rw [List.countP_cons] at counted
    by_cases same : b.slot = n <;> simp [same] at counted ⊢ <;> omega
  current a mem := (keepsInstalls_lowerBound slots _).current (law.current a (List.mem_cons_of_mem b mem))

/-- The end of a context lowers the bound counts of its untainted bindings (R86, R88). -/
theorem Counted.unbind (c : Context) (law : Counted slots (untainted c ++ bindings)) : Counted (unbind c slots) bindings := by
  unfold Machine.unbind
  unfold untainted at law
  cases auth : c.authTaint <;> cases seal_ : c.sealTaint <;>
    simp only [auth, seal_, if_true, if_false, Bool.false_eq_true, List.nil_append, List.cons_append] at law ⊢
  · exact law.lower.lower
  · exact law.lower
  · exact law.lower
  · exact law

/-- A withdrawal sets the bound counts of its slots to 0 and reaches every binding to them (R10, R12). -/
theorem Counted.withdraw (law : Counted slots bindings) (found : List Nat) :
    Counted (emptyEach slots found) (bindings.filter fun b => !reaches slots found b.slot b.epoch) where
  bounds n y at_n := by
    rw [Withdrawal.getElem?_emptyEach] at at_n
    obtain ⟨x, before, rfl⟩ := Option.map_eq_some_iff.mp at_n
    rw [List.countP_filter]
    by_cases mem : n ∈ found
    · rw [if_pos mem]
      refine (List.countP_eq_zero.mpr fun b named => ?_).symm
      obtain ⟨x, at_b, held, epoch⟩ := law.current b named
      rintro both
      obtain ⟨rfl, spared⟩ := by simpa using both
      simp [reaches, mem, at_b, held, epoch] at spared
    · rw [if_neg mem, law.bounds n x before]
      refine List.countP_congr fun b _ => ?_
      by_cases same : b.slot = n
      · simp [same, reaches, mem]
      · simp [same]
  current b mem := by
    obtain ⟨mem, spared⟩ := List.mem_filter.mp mem
    exact current_emptyEach (law.current b mem) (by simpa using spared)

/-- No binding counts for an EMPTY slot, so an install begins with the bound count 0 (R33). -/
theorem Counted.installEach (law : Counted slots bindings) (installs : List (ImageRecord × Key)) :
    Counted (installEach slots installs).1 bindings := by
  induction installs generalizing slots with
  | nil => exact law
  | cons install rest ih =>
    obtain ⟨r, key⟩ := install
    simp only [Machine.installEach]
    split
    · exact law
    · rename_i i empty
      have unheld := DirectoryLaws.heldAt_lowestEmpty empty
      refine ih ⟨fun n y at_n => ?_, fun b mem => ?_⟩
      · rw [List.getElem?_modify] at at_n
        obtain ⟨x, before, rfl⟩ := Option.map_eq_some_iff.mp at_n
        by_cases same : i = n
        · subst same
          rw [if_pos rfl]
          refine (List.countP_eq_zero.mpr fun b named => ?_).symm
          obtain ⟨z, at_b, held, -⟩ := law.current b named
          intro names
          obtain rfl : b.slot = i := by simpa using names
          simp [heldAt, at_b] at unheld
          simp [unheld] at held
        · rw [if_neg same, law.bounds n x before]
      · refine (keepsInstalls_modify slots i fun x at_i held => ?_).current (law.current b mem)
        simp [heldAt, at_i] at unheld
        simp [unheld] at held

end

/-! ### The law on states -/

/-- The law of R8 on a state. -/
def Bound (s : State) : Prop := Counted s.slots (bindingsOf s.places)

variable {s t : State}

theorem Bound.of_same (law : Bound s) (slots : t.slots = s.slots) (bindings : SameBindings s.places t.places) : Bound t := by
  rw [Bound, slots]
  exact law.perm bindings

/-! ### OPEN (R6, R7, R78) -/

theorem current_of_resolveAuth {slots : List Slot} {issuer : Issuer} {generation : Generation} {second : Nat} {b : Binding}
    (h : resolveAuth slots issuer generation second = .ok b) : b.current slots := by
  unfold resolveAuth at h
  split at h
  · cases h
  split at h
  · rename_i at_i
    repeat' split at h
    all_goals cases h
    exact ⟨_, at_i, rfl, rfl⟩
  · cases h

theorem current_of_resolveSeal {slots : List Slot} {issuer : Issuer} {generation : Generation} {second : Nat}
    {b : Binding × Generation} (h : resolveSeal slots issuer generation second = .ok b) : b.1.current slots := by
  unfold resolveSeal at h
  split at h
  · cases h
  split at h
  · rename_i at_i
    repeat' split at h
    all_goals cases h
    exact ⟨_, at_i, rfl, rfl⟩
  · cases h

/-- An OPEN that passes its checks binds two present installs (R6, R7). -/
theorem current_of_checkOpen {lane issuer serial generation dwell} {p : OpenPlan}
    (check : s.checkOpen lane issuer serial generation dwell = .ok p) : p.auth.current s.slots ∧ p.sealKey.current s.slots := by
  unfold State.checkOpen at check
  repeat' split at check
  all_goals try cases check
  rename_i auth _ sealKey _
  unfold State.admission at check
  dsimp only at check
  repeat' split at check
  all_goals cases check
  exact ⟨current_of_resolveAuth ‹_›, current_of_resolveSeal ‹_›⟩

theorem place_of_freeIndex {index : Nat} (free : s.freeIndex = some index) :
    ∃ p, s.places[index]? = some p ∧ p.context = none := by
  obtain ⟨lt, unused, -⟩ := List.findIdx?_eq_some_iff_getElem.mp free
  exact ⟨_, List.getElem?_eq_getElem lt, by simpa using unused⟩

theorem takeOpen_bound (law : Bound s) {p : OpenPlan} {c : Context} (free : s.freeIndex = some p.index)
    (auth : p.auth.current s.slots) (sealKey : p.sealKey.current s.slots)
    (binds : untainted c = [p.auth, p.sealKey]) : Bound (s.takeOpen c p) := by
  obtain ⟨q, at_index, unused⟩ := place_of_freeIndex free
  have slots : (s.takeOpen c p).slots = raiseBound (raiseBound s.slots p.auth.slot) p.sealKey.slot := by
    simp [State.takeOpen]
  have raised := (law.raise auth).raise ((keepsInstalls_raiseBound s.slots _).current sealKey)
  have allocated := bindingsOf_modify at_index fun _ => ⟨s.nextUse p.index, some c⟩
  rw [show bindingsAt q = [] by simp [bindingsAt, unused], ← List.set_eq_modify] at allocated
  rw [Bound, slots, TableLaws.takeOpen_places]
  refine raised.perm (allocated.symm.trans ?_)
  simp only [bindingsAt, Option.elim, binds]
  exact .swap ..

/-! ### The end of a context (R86, R88) -/

theorem freeContext_bound (law : Bound s) {n : Nat} {c : Context} (at_n : s.contextAt n = some c) :
    Bound (s.freeContext n c) := by
  obtain ⟨u, at_n⟩ := State.contextAt_eq_some.mp at_n
  have freed := bindingsOf_modify at_n fun p => { p with context := none }
  exact Counted.unbind c (law.perm freed.symm)

/-! ### Withdrawal and key states (R10, R12, R45 to R48, R51) -/

theorem withdraw_bound (law : Bound s) (found : List Nat) : Bound (s.withdraw found) := by
  have tainted : Bound ((s.setSlots (emptyEach s.slots found)).setPlaces (taintedPlaces s.slots found s.places)) := by
    rw [Bound, State.setPlaces_places, bindingsOf_tainted]
    exact Counted.withdraw law found
  refine Bound.of_same tainted (by simp [State.withdraw]) ?_
  simpa [State.withdraw, taintedPlaces] using failEach_sameBindings (State.setPlaces _ _) _ _

theorem applyPhase_bound (law : Bound s) (r : Rollover) : Bound (s.applyPhase r) := by
  unfold State.applyPhase
  dsimp only
  split
  · have advanced := law.restated (keepsInstalls_advanceSlots r s.slots) (DirectoryLaws.restates_advanceSlots r s.slots)
    simpa [Bound] using advanced
  · have retired : Bound (s.setRollovers (removeRollover s.rollovers r.issuer)) := law
    simpa [Bound] using withdraw_bound retired (r.retiring s.slots)

/-! ### The completion of an operation (R33, R119) -/

theorem forOwner_sameBindings (s : State) (h : Handle) {act : Nat → Context → State → State}
    (keeps : ∀ n c, SameBindings s.places (act n c s).places) : SameBindings s.places (s.forOwner h act).places := by
  unfold State.forOwner
  split
  · exact keeps _ _
  · exact .refl _

theorem laneDerivation_sameBindings (s : State) (h : Handle) (op : Operation) (masterKey : Option Key) :
    SameBindings s.places (s.laneDerivation h op masterKey).places := by
  unfold State.laneDerivation
  split
  · refine forOwner_sameBindings s h fun n c => ?_
    simpa using updateContext_sameBindings (s.insert ..) n (f := Context.spend) fun _ => rfl
  · exact .refl _

/-- What a completed operation hands to its owner changes no binding (R119). -/
theorem handOver_sameBindings (s : State) (work : Work) (op : Operation) (masterKey : Option Key) :
    SameBindings s.places (s.handOver work op masterKey).places := by
  have changed (n : Nat) (f : Context → Context) (keeps : ∀ c, untainted (f c) = untainted c) :=
    updateContext_sameBindings s n keeps
  cases work with
  | opening h =>
    simp only [State.handOver]
    split
    · exact forOwner_sameBindings s h fun n _ => .post (changed n _ (by intro; rfl)) _
    · exact laneDerivation_sameBindings ..
  | verifying h proof =>
    refine forOwner_sameBindings s h fun n c => ?_
    split
    · exact .post (.releasePin (changed n _ (by intro; rfl)) ..) _
    · exact failContext_sameBindings ..
  | sealing h r first =>
    simp only [State.handOver]
    split
    · exact forOwner_sameBindings s h fun n _ => changed n _ fun _ => rfl
    · exact forOwner_sameBindings s h fun n _ => .post (.releasePin (changed n _ (by intro; rfl)) ..) _
    · exact laneDerivation_sameBindings ..
  | keyset => exact .refl _
  | prefetch issuer serial =>
    simp only [State.handOver, State.prefetchDerivation]
    split
    · simpa using SameBindings.refl s.places
    · exact .refl _

theorem completeCommit_bound (law : Bound s) (l : Load) (keys : List Key) (results : List Bool) :
    Bound (s.completeCommit l keys results) := by
  unfold State.completeCommit
  dsimp only
  split
  · simpa [Bound] using law
  split
  · simpa [Bound] using Counted.installEach law _
  · simpa [Bound] using law

theorem endKeyset_bound (law : Bound s) (work : Work) : Bound (s.endKeyset work) := by
  unfold State.endKeyset
  split
  · exact completeCommit_bound law ..
  all_goals exact law

theorem lastOperation_bound (law : Bound s) (name : UnitName) (j : Job) (op : Operation) (masterKey : Option Key) :
    Bound (s.lastOperation name j op masterKey) := by
  have handed : Bound ((s.endJob j.sequence).handOver j.work op masterKey) :=
    Bound.of_same law (by simp [State.endJob]) (handOver_sameBindings (s.endJob j.sequence) ..)
  have ended := endKeyset_bound handed (s.workAfter j.work op)
  simpa [State.lastOperation, State.endJob, Bound] using ended

/-! ### Every step -/

/-- A table without contexts binds nothing (R20, R148). -/
theorem counted_fresh {slots : List Slot} (n : Nat) (unbound : ∀ x ∈ slots, x.bound = 0) :
    Counted slots (bindingsOf (List.replicate n Place.fresh)) := by
  have none : bindingsOf (List.replicate n Place.fresh) = [] := by
    simp [bindingsOf, bindingsAt, Place.fresh]
  rw [none]
  exact ⟨fun m x at_m => unbound x (List.mem_of_getElem? at_m), by simp⟩

/-- Every change keeps the law of the bound counts. -/
theorem change_bound {i : Instr} (law : Bound s) (change : Change s i t) : Bound t := by
  cases change with
  | beside h => exact law.of_same h.slots (h.places ▸ .refl _)
  | posts r before after =>
    exact law.of_same (by simp [after.slots, before.slots]) (by simp [after.places, before.places, SameBindings.refl])
  | opens _ check =>
    obtain ⟨auth, sealKey⟩ := current_of_checkOpen check
    exact takeOpen_bound law (freeIndex_of_checkOpen check) auth sealKey rfl
  | verifies _ n => exact law.of_same (by simp) (.placed (updateContext_sameBindings s n (by intro; rfl)) ..)
  | seals _ n c record =>
    refine law.of_same (by simp) ?_
    rw [TableLaws.takeSeal_places]
    exact updateContext_sameBindings s n fun _ => rfl
  | fails _ n reason posted => exact law.of_same (by simp) (failContext_sameBindings s n reason posted)
  | frees _ at_n => exact freeContext_bound law at_n
  | withdraws _ _ found => exact withdraw_bound law found
  | @rollsBack _ r _ _ =>
    simpa [Bound] using Counted.restated law (keepsInstalls_undoSlots r s.slots) (restates_undoSlots r s.slots)
  | advances => exact applyPhase_bound law _
  | closesLanes _ mask indices => exact law.of_same (by simp) (failEach_sameBindings (s.setMask mask) indices _)
  | leavesService _ indices p =>
    exact law.of_same (by simp) (by simpa using failEach_sameBindings (s.setService .serviceOff) indices .serviceOff)
  | ends => exact lastOperation_bound law ..
  | goesOn =>
    refine law.of_same (by simp) ?_
    rw [TableLaws.middleOperation_places]
    exact handOver_sameBindings ..
  | resets _ h =>
    rw [Bound, h.slots, h.places]
    exact counted_fresh 48 fun x mem => by
      obtain ⟨y, -, rfl⟩ := List.mem_map.mp mem
      rfl
  | zeroizes => exact counted_fresh 48 fun x mem => by rw [List.eq_of_mem_replicate mem, Slot.blank]
  | _ => simpa [Bound] using law

/-- Settles O54: every change keeps the law, and an answer changes no slot and no context. -/
theorem boundCountsCountBindings : Obligations.BoundCountsCountBindings := by
  intro s t law _ h
  have answered (t : State) (i : Instr) (a : Answer) (law : Bound t) : Bound (t.answered i a) := by simpa [Bound] using law
  exact (boundsLawful_iff t).mpr (step_keeps (P := Bound) h ((boundsLawful_iff s).mp law) (fun _ law => law)
    (fun _ _ _ law change => change_bound law change) answered)

end Sys2Proof.Machine.BoundCounts

/-! Key material stays inside (R17, R18, R127): every read of the state but those of a block operation is blind to the keys, and
every event but the completion of a block operation commutes with their blanking out. -/

namespace Sys2Proof.Machine.KeysInside

/-! ### Blanking out the parts of a state -/

/-- A master key without its key material. -/
def blanked (k : MasterKey) : MasterKey := { k with key := 0 }

/-- A job with the keys and cipher blocks that it carries blanked out. -/
def veiledJob (j : Job) : Job := { j with work := j.work.veiled }

/-- A cache entry with its derived key blanked out. -/
def veiledEntry (e : CacheEntry) : CacheEntry := { e with key := 0 }

/-- A unit's activity with the master key that it holds blanked out. -/
def veiledActivity : Activity → Activity
  | .free => .free
  | .running sequence masterKey => .running sequence (masterKey.map fun _ => 0)
  | .testing => .testing

theorem unit_veiled_eq (u : CipherUnit) : u.veiled = ⟨u.health, u.placement, veiledActivity u.activity⟩ := by
  obtain ⟨_, _, _ | _ | _⟩ := u <;> rfl

theorem work_veiled_veiled (w : Work) : w.veiled.veiled = w.veiled := by
  cases w <;> simp [Work.veiled, Function.comp_def]

theorem unit_veiled_veiled (u : CipherUnit) : u.veiled.veiled = u.veiled := by
  obtain ⟨_, _, _ | _ | _⟩ := u <;> simp [CipherUnit.veiled, Function.comp_def]

/-- Blanking out twice is blanking out once. -/
theorem veiled_veiled (s : State) : s.veiled.veiled = s.veiled := by
  simp [State.veiled, Slot.veiled, work_veiled_veiled, unit_veiled_veiled, Function.comp_def]

variable (s : State)

@[simp] theorem veiled_power : s.veiled.power = s.power := rfl
@[simp] theorem veiled_straps : s.veiled.straps = s.straps := rfl
@[simp] theorem veiled_link : s.veiled.link = s.link := rfl
@[simp] theorem veiled_service : s.veiled.service = s.service := rfl
@[simp] theorem veiled_mask : s.veiled.mask = s.mask := rfl
@[simp] theorem veiled_settings : s.veiled.settings = s.settings := rfl
@[simp] theorem veiled_clock : s.veiled.clock = s.clock := rfl
@[simp] theorem veiled_slots : s.veiled.slots = s.slots.map Slot.veiled := rfl
@[simp] theorem veiled_checkValue : s.veiled.transport.map (·.checkValue) = s.transport.map (·.checkValue) := by
  cases h : s.transport <;> simp [State.veiled, h]

@[simp] theorem veiled_stager : s.veiled.stager = s.stager := rfl
@[simp] theorem veiled_rollovers : s.veiled.rollovers = s.rollovers := rfl
@[simp] theorem veiled_cache : s.veiled.cache = s.cache.map veiledEntry := rfl
@[simp] theorem veiled_places : s.veiled.places = s.places := rfl
@[simp] theorem veiled_u0 : s.veiled.u0 = s.u0.veiled := rfl
@[simp] theorem veiled_u1 : s.veiled.u1 = s.u1.veiled := rfl
@[simp] theorem veiled_suspended : s.veiled.suspended = s.suspended := rfl
@[simp] theorem veiled_test : s.veiled.test = s.test := rfl
@[simp] theorem veiled_jobs : s.veiled.jobs = s.jobs.map veiledJob := rfl
@[simp] theorem veiled_nextSequence : s.veiled.nextSequence = s.nextSequence := rfl
@[simp] theorem veiled_thermal : s.veiled.thermal = s.thermal := rfl
@[simp] theorem veiled_queue : s.veiled.queue = s.queue := rfl
@[simp] theorem veiled_restarting : s.veiled.restarting = s.restarting := rfl
@[simp] theorem veiled_draws : s.veiled.draws = s.draws := rfl

/-! ### Reads that are blind to key material -/

section
variable (x : Slot) (u : CipherUnit) (w : Work) (e : CacheEntry)

@[simp] theorem veiled_isEmpty : x.veiled.isEmpty = x.isEmpty := by simp [Slot.isEmpty, Slot.veiled]

@[simp] theorem veiled_isFor (issuer : Issuer) (generation : Generation) (role : Role) :
    x.veiled.isFor issuer generation role = x.isFor issuer generation role := by
  obtain ⟨_ | k, _, _⟩ := x <;> rfl

@[simp] theorem veiled_isActiveSeal (issuer : Issuer) : x.veiled.isActiveSeal issuer = x.isActiveSeal issuer := by
  obtain ⟨_ | k, _, _⟩ := x <;> rfl

@[simp] theorem veiled_windowEnded (second : Nat) : x.veiled.windowEnded second = x.windowEnded second := by
  obtain ⟨_ | k, _, _⟩ := x <;> rfl

@[simp] theorem veiled_health : u.veiled.health = u.health := by rw [unit_veiled_eq]
@[simp] theorem veiled_placement : u.veiled.placement = u.placement := by rw [unit_veiled_eq]

@[simp] theorem veiled_serves (suspended : Bool) : u.veiled.serves suspended = u.serves suspended := by
  simp [CipherUnit.serves]

@[simp] theorem veiled_isFree : u.veiled.isFree = u.isFree := by obtain ⟨_, _, _ | _ | _⟩ := u <;> rfl

@[simp] theorem veiled_activityKind : u.veiled.activityKind = u.activityKind := by
  obtain ⟨_, _, _ | _ | _⟩ := u <;> rfl

@[simp] theorem veiled_owner : w.veiled.owner = w.owner := by cases w <;> rfl
@[simp] theorem veiled_isPrefetch : w.veiled.isPrefetch = w.isPrefetch := by cases w <;> rfl
@[simp] theorem veiled_isKeyset : w.veiled.isKeyset = w.isKeyset := by cases w <;> rfl
@[simp] theorem veiled_consumes : w.veiled.consumes = w.consumes := by cases w <;> rfl

@[simp] theorem veiled_isLiveFor (issuer : Issuer) (serial : Serial) (generation : Generation) (role : Role) :
    (veiledEntry e).isLiveFor issuer serial generation role = e.isLiveFor issuer serial generation role := rfl

@[simp] theorem veiled_isPinnedBy (h : Handle) (role : Role) : (veiledEntry e).isPinnedBy h role = e.isPinnedBy h role := rfl

@[simp] theorem veiled_purgeable (issuer : Issuer) (base : Serial) (exponent : Nat) :
    (veiledEntry e).purgeable issuer base exponent = e.purgeable issuer base exponent := rfl

end

section
variable (slots : List Slot) (cache : List CacheEntry) (jobs : List Job)

@[simp] theorem usedSlots_veiled : usedSlots (slots.map Slot.veiled) = usedSlots slots := by
  simp [usedSlots, List.countP_map, Function.comp_def]

@[simp] theorem emptySlots_veiled : emptySlots (slots.map Slot.veiled) = emptySlots slots := by
  simp [emptySlots, List.countP_map, Function.comp_def]

@[simp] theorem heldAt_veiled (i : Nat) : heldAt (slots.map Slot.veiled) i = (heldAt slots i).map blanked := by
  simp only [heldAt, List.getElem?_map]
  cases slots[i]? <;> rfl

@[simp] theorem findSlot_veiled (issuer : Issuer) (generation : Generation) (role : Role) :
    findSlot (slots.map Slot.veiled) issuer generation role = findSlot slots issuer generation role := by
  simp [findSlot, List.findIdx?_map, Function.comp_def]

@[simp] theorem activeSeal_veiled (issuer : Issuer) :
    activeSeal (slots.map Slot.veiled) issuer = activeSeal slots issuer := by
  simp [activeSeal, List.findIdx?_map, Function.comp_def]

@[simp] theorem resolveAuth_veiled (issuer : Issuer) (generation : Generation) (second : Nat) :
    resolveAuth (slots.map Slot.veiled) issuer generation second = resolveAuth slots issuer generation second := by
  unfold resolveAuth
  rw [findSlot_veiled]
  cases findSlot slots issuer generation .auth with
  | none => rfl
  | some i =>
    simp only [List.getElem?_map]
    rcases slots[i]? with _ | ⟨_ | k, _, _⟩ <;> rfl

@[simp] theorem resolveSeal_veiled (issuer : Issuer) (generation : Generation) (second : Nat) :
    resolveSeal (slots.map Slot.veiled) issuer generation second = resolveSeal slots issuer generation second := by
  unfold resolveSeal
  rw [activeSeal_veiled]
  cases activeSeal slots issuer with
  | none => rfl
  | some i =>
    simp only [List.getElem?_map]
    rcases slots[i]? with _ | ⟨_ | k, _, _⟩ <;> rfl

@[simp] theorem reaches_veiled (found : List Nat) (slot : Nat) (epoch : Epoch) :
    reaches (slots.map Slot.veiled) found slot epoch = reaches slots found slot epoch := by
  simp only [reaches, List.getElem?_map]
  rcases slots[slot]? with _ | ⟨_ | k, _, _⟩ <;> rfl

@[simp] theorem matchingSlots_veiled (issuer : Issuer) (generation : Generation) (roles : Byte) :
    matchingSlots (slots.map Slot.veiled) issuer generation roles = matchingSlots slots issuer generation roles := by
  simp only [matchingSlots, List.length_map, List.getElem?_map]
  refine List.filter_congr fun i _ => ?_
  cases slots[i]? <;> simp

@[simp] theorem requireSlot_veiled (issuer : Issuer) (generation : Generation) (role : Role) (required : KeyState) :
    requireSlot (slots.map Slot.veiled) issuer generation role required
      = requireSlot slots issuer generation role required := by
  unfold requireSlot
  rw [findSlot_veiled]
  cases findSlot slots issuer generation role with
  | none => rfl
  | some i =>
    simp only [heldAt_veiled]
    cases heldAt slots i <;> rfl

@[simp] theorem rolloverSlots_veiled (issuer : Issuer) (a b : Generation) :
    rolloverSlots (slots.map Slot.veiled) issuer a b = rolloverSlots slots issuer a b := by
  simp only [rolloverSlots, requireSlot_veiled]

@[simp] theorem conflict_veiled (earlier : List ImageRecord) (r : ImageRecord) :
    r.conflict (slots.map Slot.veiled) earlier = r.conflict slots earlier := by
  simp only [ImageRecord.conflict, findSlot_veiled, activeSeal_veiled]

@[simp] theorem firstConflict_veiled (earlier records : List ImageRecord) :
    firstConflict (slots.map Slot.veiled) earlier records = firstConflict slots earlier records := by
  induction records generalizing earlier with
  | nil => rfl
  | cons r rest ih => simp only [firstConflict, conflict_veiled, ih]

@[simp] theorem cacheHit_veiled (issuer : Issuer) (serial : Serial) (generation : Generation) (role : Role) :
    cacheHit (cache.map veiledEntry) issuer serial generation role = cacheHit cache issuer serial generation role := by
  simp [cacheHit, List.any_map, Function.comp_def]

theorem jobOf_veiled (h : Handle) : jobOf (jobs.map veiledJob) h = (jobOf jobs h).map veiledJob := by
  simp [jobOf, List.find?_map, veiledJob]

@[simp] theorem jobOf_isSome_veiled (h : Handle) : (jobOf (jobs.map veiledJob) h).isSome = (jobOf jobs h).isSome := by
  simp [jobOf_veiled]

@[simp] theorem jobStatusOf_veiled (h : Handle) : jobStatusOf (jobs.map veiledJob) h = jobStatusOf jobs h := by
  unfold jobStatusOf
  rw [jobOf_veiled]
  cases jobOf jobs h <;> rfl

@[simp] theorem prefetchJobs_veiled : prefetchJobs (jobs.map veiledJob) = prefetchJobs jobs := by
  simp [prefetchJobs, List.countP_map, Function.comp_def, veiledJob]

@[simp] theorem keysetAhead_veiled (deadline : Nat) : keysetAhead (jobs.map veiledJob) deadline = keysetAhead jobs deadline := by
  have counted : (jobs.map veiledJob).filter (fun j => j.work.isKeyset && decide (j.time ≤ deadline))
      = (jobs.filter fun j => j.work.isKeyset && decide (j.time ≤ deadline)).map veiledJob := by
    rw [List.filter_map]
    exact congrArg _ (List.filter_congr fun j _ => congrArg (· && _) (veiled_isKeyset j.work))
  rw [keysetAhead, counted, List.map_map]
  rfl

@[simp] theorem jobReached_veiled (found : List Nat) (c : Context) :
    c.jobReached (slots.map Slot.veiled) (jobs.map veiledJob) found = c.jobReached slots jobs found := by
  simp only [Context.jobReached, jobOf_veiled, reaches_veiled]
  cases jobOf jobs c.handle with
  | none => rfl
  | some j => simp [veiledJob]

end

section
variable (i n : Nat) (h : Handle) (c : Context)

@[simp] theorem contextAt_veiled : s.veiled.contextAt i = s.contextAt i := rfl
@[simp] theorem contexts_veiled : s.veiled.contexts = s.contexts := rfl
@[simp] theorem resolveHandle_veiled : s.veiled.resolveHandle h = s.resolveHandle h := rfl
@[simp] theorem nowMs_veiled : s.veiled.nowMs = s.nowMs := rfl
@[simp] theorem nowSeconds_veiled : s.veiled.nowSeconds = s.nowSeconds := rfl
@[simp] theorem due_veiled (time : Nat) : s.veiled.due time = s.due time := rfl
@[simp] theorem indicesWhere_veiled (p : Context → Bool) : s.veiled.indicesWhere p = s.indicesWhere p := rfl
@[simp] theorem liveCount_veiled (lane : Byte) : s.veiled.liveCount lane = s.liveCount lane := rfl
@[simp] theorem blockingContext_veiled (issuer : Issuer) (serial : Serial) :
    s.veiled.blockingContext issuer serial = s.blockingContext issuer serial := rfl
@[simp] theorem freeIndex_veiled : s.veiled.freeIndex = s.freeIndex := rfl
@[simp] theorem nextUse_veiled : s.veiled.nextUse n = s.nextUse n := rfl
@[simp] theorem sealRecord_veiled (vehicleClass : Byte) (charge : BitVec 32) (sequence : BitVec 16) :
    s.veiled.sealRecord c vehicleClass charge sequence = s.sealRecord c vehicleClass charge sequence := rfl
@[simp] theorem keysetDeadline_veiled : s.veiled.keysetDeadline = s.keysetDeadline := rfl
@[simp] theorem linkRefusal_veiled (i : Instr) : s.veiled.linkRefusal i = s.linkRefusal i := rfl
@[simp] theorem newContext_veiled (lane : Byte) (issuer : Issuer) (serial : Serial) (generation : Generation) (nonce : Half)
    (p : OpenPlan) :
    s.veiled.newContext lane issuer serial generation nonce p = s.newContext lane issuer serial generation nonce p := rfl

@[simp] theorem unit_veiled (name : UnitName) : s.veiled.unit name = (s.unit name).veiled := by cases name <;> rfl

@[simp] theorem unitsServing_veiled : s.veiled.unitsServing = s.unitsServing := by simp [State.unitsServing]

@[simp] theorem openEstimate_veiled (dwell cost : Nat) : s.veiled.openEstimate dwell cost = s.openEstimate dwell cost := by
  simp [State.openEstimate]

@[simp] theorem admission_veiled (lane : Byte) (issuer : Issuer) (serial : Serial) (generation : Generation) (dwell : Nat)
    (auth : Binding) (sealKey : Binding × Generation) :
    s.veiled.admission lane issuer serial generation dwell auth sealKey
      = s.admission lane issuer serial generation dwell auth sealKey := by
  simp [State.admission]

@[simp] theorem checkOpen_veiled (lane : Byte) (issuer : Issuer) (serial : Serial) (generation : Generation) (dwell : Nat) :
    s.veiled.checkOpen lane issuer serial generation dwell = s.checkOpen lane issuer serial generation dwell := by
  simp [State.checkOpen]

@[simp] theorem holdsSealPin_veiled : s.veiled.holdsSealPin c = s.holdsSealPin c := by
  simp [State.holdsSealPin, List.any_map, Function.comp_def]

@[simp] theorem sealLookupHits_veiled : s.veiled.sealLookupHits c = s.sealLookupHits c := by simp [State.sealLookupHits]

@[simp] theorem sealOperations_veiled : s.veiled.sealOperations c = s.sealOperations c := by simp [State.sealOperations]

@[simp] theorem planRollover_veiled (issuer : Issuer) (a b : Generation) (p1 p2 p3 p4 : Nat) :
    s.veiled.planRollover issuer a b p1 p2 p3 p4 = s.planRollover issuer a b p1 p2 p3 p4 := by
  simp [State.planRollover]

@[simp] theorem taintCount_veiled (found : List Nat) : s.veiled.taintCount found = s.taintCount found := by
  have same : Context.reached (s.slots.map Slot.veiled) found = Context.reached s.slots found :=
    funext fun c => by simp [Context.reached]
  rw [State.taintCount, veiled_slots, same]
  rfl

@[simp] theorem endedSlots_veiled : s.veiled.endedSlots = s.endedSlots := by
  unfold State.endedSlots
  rw [veiled_clock]
  cases s.clock.time with
  | none => rfl
  | some now =>
    simp only [veiled_slots, List.length_map, List.getElem?_map]
    refine List.filter_congr fun i _ => ?_
    cases s.slots[i]? <;> simp

@[simp] theorem report_veiled : s.veiled.report = s.report := by
  simp [State.report]
  rfl

end

/-! ### Operations that commute with the blanking out -/

section
variable (slots : List Slot) (cache : List CacheEntry) (jobs : List Job)

theorem map_modify_veiled (i : Nat) {f : Slot → Slot} (blind : ∀ x, f x.veiled = (f x).veiled) :
    (slots.map Slot.veiled).modify i f = (slots.modify i f).map Slot.veiled := by
  refine List.ext_getElem? fun n => ?_
  simp only [List.getElem?_modify, List.getElem?_map]
  cases slots[n]? with
  | none => rfl
  | some x =>
    by_cases same : i = n
    · simp [same, blind]
    · simp [same]

@[simp] theorem lowerBound_veiled (i : Nat) :
    lowerBound (slots.map Slot.veiled) i = (lowerBound slots i).map Slot.veiled := map_modify_veiled slots i fun _ => rfl

@[simp] theorem raiseBound_veiled (i : Nat) :
    raiseBound (slots.map Slot.veiled) i = (raiseBound slots i).map Slot.veiled := map_modify_veiled slots i fun _ => rfl

@[simp] theorem setKeyState_veiled (i : Nat) (state : KeyState) :
    setKeyState (slots.map Slot.veiled) i state = (setKeyState slots i state).map Slot.veiled :=
  map_modify_veiled slots i fun x => by obtain ⟨_ | k, _, _⟩ := x <;> rfl

@[simp] theorem unbind_veiled (c : Context) : unbind c (slots.map Slot.veiled) = (unbind c slots).map Slot.veiled := by
  unfold unbind
  dsimp only
  split <;> split <;> simp

@[simp] theorem emptyEach_veiled (found : List Nat) :
    emptyEach (slots.map Slot.veiled) found = (emptyEach slots found).map Slot.veiled := by
  induction found generalizing slots with
  | nil => rfl
  | cons i rest ih =>
    have emptied := map_modify_veiled slots i (f := fun x => { x with held := none, bound := 0 }) fun _ => rfl
    simp only [emptyEach, List.foldl_cons] at ih ⊢
    rw [emptied, ih]

@[simp] theorem advanceSlots_veiled (r : Rollover) :
    r.advanceSlots (slots.map Slot.veiled) = (r.advanceSlots slots).map Slot.veiled := by
  unfold Rollover.advanceSlots
  split
  · simp
  split <;> simp

@[simp] theorem undoSlots_veiled (r : Rollover) :
    r.undoSlots (slots.map Slot.veiled) = (r.undoSlots slots).map Slot.veiled := by
  unfold Rollover.undoSlots
  dsimp only
  split <;> split <;> split <;> simp

@[simp] theorem retiring_veiled (r : Rollover) : r.retiring (slots.map Slot.veiled) = r.retiring slots := by
  simp [Rollover.retiring]

theorem moveToFront_veiled (p : CacheEntry → Bool) (blind : ∀ e, p (veiledEntry e) = p e) :
    moveToFront p (cache.map veiledEntry) = (moveToFront p cache).map veiledEntry := by
  simp [moveToFront, List.filter_map, Function.comp_def, blind]

theorem filterMap_veiled {f g : CacheEntry → Option CacheEntry} (blind : ∀ e, f (veiledEntry e) = (g e).map veiledEntry) :
    (cache.map veiledEntry).filterMap f = (cache.filterMap g).map veiledEntry := by
  rw [List.filterMap_map, List.map_filterMap]
  exact List.filterMap_congr fun e _ => blind e

theorem filter_veiled {p q : Job → Bool} (blind : ∀ j, p (veiledJob j) = q j) :
    (jobs.map veiledJob).filter p = (jobs.filter q).map veiledJob := by
  rw [List.filter_map]
  exact congrArg _ (List.filter_congr fun j _ => blind j)

theorem firstJob_veiled {before : Job → Job → Bool} (blind : ∀ a b, before (veiledJob a) (veiledJob b) = before a b) :
    firstJob before (jobs.map veiledJob) = (firstJob before jobs).map veiledJob := by
  induction jobs with
  | nil => rfl
  | cons j rest ih =>
    simp only [List.map_cons, firstJob, ih]
    cases firstJob before rest with
    | none => rfl
    | some k =>
      simp only [Option.map_some, blind]
      split <;> rfl

/-- The arbiter's choice is blind to what jobs carry (R116). -/
@[simp] theorem nextJob_veiled : nextJob (jobs.map veiledJob) = (nextJob jobs).map veiledJob := by
  unfold nextJob
  rw [filter_veiled jobs (q := fun j => !j.running && !j.work.isPrefetch) fun j => by simp [veiledJob],
    filter_veiled jobs (q := fun j => !j.running && j.work.isPrefetch) fun j => by simp [veiledJob],
    firstJob_veiled _ fun _ _ => rfl, firstJob_veiled _ fun _ _ => rfl]
  cases firstJob deadlineBefore _ <;> rfl

@[simp] theorem masterKeyFor_veiled (op : Option Operation) :
    masterKeyFor (slots.map Slot.veiled) op = (masterKeyFor slots op).map fun _ => 0 := by
  obtain _ | op := op
  · rfl
  cases op with
  | derive role generation slot epoch =>
    simp only [masterKeyFor, List.getElem?_map]
    rcases slots[slot]? with _ | ⟨_ | k, current, _⟩
    · rfl
    · rfl
    · simp only [Option.map_some, Slot.veiled]
      split <;> rfl
  | _ => rfl

theorem updateJob_veiled (sequence : Nat) {f : Job → Job} (blind : ∀ j, f (veiledJob j) = veiledJob (f j)) :
    updateJob (jobs.map veiledJob) sequence f = (updateJob jobs sequence f).map veiledJob := by
  simp only [updateJob, List.map_map]
  refine List.map_congr_left fun j _ => ?_
  simp only [Function.comp_apply]
  by_cases same : j.sequence = sequence
  · rw [if_pos same, if_pos (show (veiledJob j).sequence = sequence from same), blind]
  · rw [if_neg same, if_neg (show (veiledJob j).sequence ≠ sequence from same)]

end

@[simp] theorem setSlots_veiled (slots : List Slot) : s.veiled.setSlots (slots.map Slot.veiled) = (s.setSlots slots).veiled := rfl
@[simp] theorem setCache_veiled (cache : List CacheEntry) :
    s.veiled.setCache (cache.map veiledEntry) = (s.setCache cache).veiled := rfl
@[simp] theorem setJobs_veiled (jobs : List Job) : s.veiled.setJobs (jobs.map veiledJob) = (s.setJobs jobs).veiled := rfl
@[simp] theorem setUnit_veiled (name : UnitName) (u : CipherUnit) :
    s.veiled.setUnit name u.veiled = (s.setUnit name u).veiled := by cases name <;> rfl
@[simp] theorem setLink_veiled (v : Link) : s.veiled.setLink v = (s.setLink v).veiled := rfl
@[simp] theorem setService_veiled (v : ServiceState) : s.veiled.setService v = (s.setService v).veiled := rfl
@[simp] theorem setMask_veiled (v : Byte) : s.veiled.setMask v = (s.setMask v).veiled := rfl
@[simp] theorem setSettings_veiled (v : Settings) : s.veiled.setSettings v = (s.setSettings v).veiled := rfl
@[simp] theorem setClock_veiled (v : LaneClock) : s.veiled.setClock v = (s.setClock v).veiled := rfl
@[simp] theorem setStager_veiled (v : Stager) : s.veiled.setStager v = (s.setStager v).veiled := rfl
@[simp] theorem setRollovers_veiled (v : List Rollover) : s.veiled.setRollovers v = (s.setRollovers v).veiled := rfl
@[simp] theorem setPlaces_veiled (v : List Place) : s.veiled.setPlaces v = (s.setPlaces v).veiled := rfl
@[simp] theorem setSuspended_veiled (v : Bool) : s.veiled.setSuspended v = (s.setSuspended v).veiled := rfl
@[simp] theorem setTest_veiled (v : Option TestOrigin) : s.veiled.setTest v = (s.setTest v).veiled := rfl
@[simp] theorem setNextSequence_veiled (v : Nat) : s.veiled.setNextSequence v = (s.setNextSequence v).veiled := rfl
@[simp] theorem setThermal_veiled (v : Thermal) : s.veiled.setThermal v = (s.setThermal v).veiled := rfl
@[simp] theorem setQueue_veiled (v : CompletionQueue) : s.veiled.setQueue v = (s.setQueue v).veiled := rfl
@[simp] theorem setRestarting_veiled (v : Bool) : s.veiled.setRestarting v = (s.setRestarting v).veiled := rfl
@[simp] theorem setDraws_veiled (v : Nat) : s.veiled.setDraws v = (s.setDraws v).veiled := rfl
@[simp] theorem answered_veiled (i : Instr) (a : Answer) : s.veiled.answered i a = (s.answered i a).veiled := rfl
@[simp] theorem updateContext_veiled (i : Nat) (f : Context → Context) :
    s.veiled.updateContext i f = (s.updateContext i f).veiled := rfl
@[simp] theorem clearVolatile_veiled : s.veiled.clearVolatile = s.clearVolatile.veiled := by
  simp [State.clearVolatile, State.veiled, Slot.veiled, CipherUnit.fresh, CipherUnit.veiled]

theorem place_veiled {work : Work} (unkeyed : work.veiled = work) (operations : List Operation) (time : Nat) :
    s.veiled.place work operations time = (s.place work operations time).veiled := by
  simp [State.place, State.veiled, State.setJobs, State.setNextSequence, unkeyed]

section
variable (operations : List Operation) (time : Nat)

@[simp] theorem place_opening_veiled (h : Handle) (issuer : Issuer) (serial : Serial) (nonce challenge : Half) :
    s.veiled.place (.opening h issuer serial nonce challenge) operations time
      = (s.place (.opening h issuer serial nonce challenge) operations time).veiled := place_veiled s rfl operations time

@[simp] theorem place_verifying_veiled (h : Handle) (proof : Half) : s.veiled.place (.verifying h proof) operations time
    = (s.place (.verifying h proof) operations time).veiled := place_veiled s rfl operations time

@[simp] theorem place_sealing_veiled (h : Handle) (r : SealRecord) : s.veiled.place (.sealing h r none) operations time
    = (s.place (.sealing h r none) operations time).veiled := place_veiled s rfl operations time

@[simp] theorem place_keyset_veiled (l : Load) : s.veiled.place (.keyset l [] []) operations time
    = (s.place (.keyset l [] []) operations time).veiled := place_veiled s rfl operations time

@[simp] theorem place_prefetch_veiled (issuer : Issuer) (serial : Serial) :
    s.veiled.place (.prefetch issuer serial) operations time
      = (s.place (.prefetch issuer serial) operations time).veiled := place_veiled s rfl operations time

end

@[simp] theorem post_veiled (r : CompletionRecord) : s.veiled.post r = (s.post r).veiled := by
  unfold State.post
  rw [veiled_service]
  split <;> rfl

@[simp] theorem touch_veiled (issuer : Issuer) (serial : Serial) (generation : Generation) (role : Role) :
    s.veiled.touch issuer serial generation role = (s.touch issuer serial generation role).veiled := by
  rw [State.touch, veiled_cache, moveToFront_veiled _ _ fun _ => rfl, setCache_veiled, ← State.touch]

@[simp] theorem pinEntry_veiled (h : Handle) (issuer : Issuer) (serial : Serial) (generation : Generation) (role : Role) :
    s.veiled.pinEntry h issuer serial generation role = (s.pinEntry h issuer serial generation role).veiled := by
  have pinned (e : CacheEntry) : Caching.merged issuer serial generation role (some h) (veiledEntry e)
      = veiledEntry (Caching.merged issuer serial generation role (some h) e) := by
    rw [Caching.merged, veiled_isLiveFor, Caching.merged]
    cases e.isLiveFor issuer serial generation role <;> rfl
  have entries : (s.cache.map veiledEntry).map (Caching.merged issuer serial generation role (some h))
      = (s.cache.map (Caching.merged issuer serial generation role (some h))).map veiledEntry := by
    rw [List.map_map, List.map_map]
    exact List.map_congr_left fun e _ => pinned e
  exact (congrArg s.veiled.setCache entries).trans (setCache_veiled s _)

@[simp] theorem releasePin_veiled (h : Handle) (role : Role) : s.veiled.releasePin h role = (s.releasePin h role).veiled := by
  have released := filterMap_veiled s.cache (f := CacheEntry.released h role) (g := CacheEntry.released h role) fun e => by
    rw [CacheEntry.released, veiled_isPinnedBy, CacheEntry.released]
    cases e.isPinnedBy h role with
    | false => rfl
    | true => cases doom : e.doom <;> simp [veiledEntry, doom]
  simp [State.releasePin, released]

theorem cancelJobs_veiled {p q : Job → Bool} (blind : ∀ j, p (veiledJob j) = q j) :
    s.veiled.cancelJobs p = (s.cancelJobs q).veiled := by
  simp only [State.cancelJobs, veiled_jobs]
  rw [filter_veiled s.jobs (q := fun j => !q j) fun j => by rw [blind], setJobs_veiled]

@[simp] theorem cancelJobOf_veiled (h : Handle) : s.veiled.cancelJobOf h = (s.cancelJobOf h).veiled :=
  cancelJobs_veiled s fun j => by simp [veiledJob]

@[simp] theorem takeNext_veiled (name : UnitName) : s.veiled.takeNext name = (s.takeNext name).veiled := by
  unfold State.takeNext
  simp only [unit_veiled, veiled_suspended, veiled_serves, veiled_isFree, veiled_jobs, nextJob_veiled, veiled_slots,
    masterKeyFor_veiled]
  split
  · cases nextJob s.jobs with
    | none => rfl
    | some j =>
      have running : ({ (s.unit name).veiled with
          activity := .running j.sequence ((masterKeyFor s.slots j.operations.head?).map fun _ => 0) } : CipherUnit) =
          CipherUnit.veiled { s.unit name with activity := .running j.sequence (masterKeyFor s.slots j.operations.head?) } := by
        simp [unit_veiled_eq, veiledActivity]
      simp only [Option.map_some, veiledJob]
      rw [running, updateJob_veiled s.jobs j.sequence (f := fun j => { j with running := true, started := true }) fun _ => rfl,
        setJobs_veiled, setUnit_veiled]
  · rfl

@[simp] theorem arbitrate_veiled : s.veiled.arbitrate = s.arbitrate.veiled := by simp [State.arbitrate]

@[simp] theorem failContext_veiled (i : Nat) (reason : FailReason) (posted : Bool) :
    s.veiled.failContext i reason posted = (s.failContext i reason posted).veiled := by
  by_cases live : ∃ c l, s.contextAt i = some c ∧ c.state = .live l
  · obtain ⟨c, l, at_i, live⟩ := live
    rw [State.failContext_of_live reason posted at_i live, State.failContext_of_live (s := s.veiled) reason posted at_i live]
    cases posted <;> simp
  · have dead : ∀ c l, s.contextAt i = some c → c.state ≠ .live l := fun c l at_i is => live ⟨c, l, at_i, is⟩
    rw [Transactions.failContext_of_dead reason posted dead, Transactions.failContext_of_dead (s := s.veiled) reason posted dead]

@[simp] theorem failEach_veiled (indices : List Nat) (reason : FailReason) :
    s.veiled.failEach indices reason = (s.failEach indices reason).veiled := by
  induction indices generalizing s with
  | nil => rfl
  | cons i rest ih =>
    simp only [State.failEach, List.foldl_cons, failContext_veiled] at ih ⊢
    exact ih _

@[simp] theorem freeContext_veiled (i : Nat) (c : Context) : s.veiled.freeContext i c = (s.freeContext i c).veiled := by
  simp [State.freeContext]

@[simp] theorem postAbandoned_veiled (records : List Rollover) :
    s.veiled.postAbandoned records = (s.postAbandoned records).veiled := by
  induction records generalizing s with
  | nil => rfl
  | cons r rest ih =>
    simp only [State.postAbandoned, List.foldl_cons, post_veiled] at ih ⊢
    exact ih _

@[simp] theorem withdraw_veiled (found : List Nat) : s.veiled.withdraw found = (s.withdraw found).veiled := by
  have entries := filterMap_veiled s.cache (f := CacheEntry.withdrawn (s.slots.map Slot.veiled) found)
    (g := CacheEntry.withdrawn s.slots found) fun e => by
      rw [CacheEntry.withdrawn, reaches_veiled, CacheEntry.withdrawn]
      change (if (e.doom.isNone && reaches s.slots found e.sourceSlot e.sourceEpoch) = true then _ else _) = _
      cases e.doom.isNone && reaches s.slots found e.sourceSlot e.sourceEpoch with
      | false => rfl
      | true => cases pin : e.pin <;> simp [veiledEntry, pin]
  have tainted : Context.tainted (s.slots.map Slot.veiled) found = Context.tainted s.slots found :=
    funext fun c => by simp [Context.tainted]
  have failing : Context.jobReached (s.slots.map Slot.veiled) (s.jobs.map veiledJob) found
      = Context.jobReached s.slots s.jobs found := funext fun c => by simp
  simp [State.withdraw, entries, tainted, failing]

@[simp] theorem touchAndPin_veiled (hit : Bool) (h : Handle) (issuer : Issuer) (serial : Serial) (generation : Generation)
    (role : Role) :
    s.veiled.touchAndPin hit h issuer serial generation role = (s.touchAndPin hit h issuer serial generation role).veiled := by
  cases hit <;> simp [State.touchAndPin]

@[simp] theorem prefetchLookups_veiled (issuer : Issuer) (serial : Serial) (generation sealGeneration : Generation) :
    s.veiled.prefetchLookups issuer serial generation sealGeneration
      = (s.prefetchLookups issuer serial generation sealGeneration).veiled := by
  simp [State.prefetchLookups]

@[simp] theorem takeOpen_veiled (c : Context) (p : OpenPlan) : s.veiled.takeOpen c p = (s.takeOpen c p).veiled := by
  simp [State.takeOpen]

@[simp] theorem takeSeal_veiled (i : Nat) (c : Context) (record : SealRecord) :
    s.veiled.takeSeal i c record = (s.takeSeal i c record).veiled := by
  simp [State.takeSeal]

@[simp] theorem applyPhase_veiled (r : Rollover) : s.veiled.applyPhase r = (s.applyPhase r).veiled := by
  unfold State.applyPhase
  dsimp only
  split <;> simp

@[simp] theorem beginTest_veiled (origin : TestOrigin) : s.veiled.beginTest origin = (s.beginTest origin).veiled := by
  simp [State.beginTest, State.veiled, State.setTest, State.setU0, State.setU1, unit_veiled_eq, veiledActivity]

@[simp] theorem setRunning_veiled (power : Power) (straps : Bool × Bool) :
    (s.veiled.setPower power).setStraps straps = ((s.setPower power).setStraps straps).veiled := rfl

@[simp] theorem beginReset_veiled : s.veiled.beginReset = s.beginReset.veiled := by
  rw [State.beginReset, clearVolatile_veiled]
  rfl

/-! ### The owners' events -/

/-- An owner's event that is blind to key material: its answer is the same, and what it leaves is the same beside the keys. -/
def Blind (own : State → State × Answer) : Prop := ∀ s, own s.veiled = ((own s).1.veiled, (own s).2)

theorem ownOpen_blind (lane issuer serial generation nonce dwell) : Blind (ownOpen lane issuer serial generation nonce dwell) := by
  intro s
  unfold ownOpen
  rw [checkOpen_veiled]
  cases s.checkOpen lane issuer serial generation (dwellTaken dwell) <;> simp

theorem ownVerify_blind (handle proof) : Blind (ownVerify handle proof) := by
  intro s
  unfold ownVerify
  rw [resolveHandle_veiled, veiled_service]
  repeat' split
  all_goals simp

theorem ownSeal_blind (handle vehicleClass charge sequence) : Blind (ownSeal handle vehicleClass charge sequence) := by
  intro s
  unfold ownSeal
  rw [resolveHandle_veiled, veiled_service]
  repeat' split
  all_goals simp

theorem ownPrefetch_blind (issuer serial generation) : Blind (ownPrefetch issuer serial generation) := by
  intro s
  unfold ownPrefetch State.prefetchResolved
  simp only [veiled_service, veiled_slots, veiled_cache, veiled_jobs, veiled_thermal, resolveAuth_veiled, resolveSeal_veiled,
    cacheHit_veiled, prefetchJobs_veiled, nowSeconds_veiled, nowMs_veiled, prefetchLookups_veiled]
  repeat' split
  all_goals simp

theorem ownPurge_blind (issuer base exponent) : Blind (ownPurge issuer base exponent) := by
  intro s
  have entries := filterMap_veiled s.cache (f := CacheEntry.purged issuer base (exponentTaken exponent))
    (g := CacheEntry.purged issuer base (exponentTaken exponent)) fun e => by
      rw [CacheEntry.purged, veiled_purgeable, CacheEntry.purged]
      cases e.purgeable issuer base (exponentTaken exponent) with
      | false => rfl
      | true => cases pin : e.pin <;> simp [veiledEntry, pin]
  have counted (p : CacheEntry → Bool) (blind : ∀ e, p (veiledEntry e) = p e) :
      (s.cache.map veiledEntry).countP p = s.cache.countP p := by
    rw [List.countP_map]
    exact List.countP_congr fun e _ => by rw [Function.comp_apply, blind]
  unfold ownPurge
  dsimp only
  split
  · rfl
  · rw [veiled_cache, entries, setCache_veiled, counted _ fun _ => rfl, counted _ fun _ => rfl]

theorem ownKeyRead_blind (index) : Blind (ownKeyRead index) := by
  intro s
  simp only [ownKeyRead, veiled_slots, List.getElem?_map]
  rcases s.slots[index.toNat]? with _ | ⟨_ | k, epoch, bound⟩ <;> rfl

theorem ownKeyWithdraw_blind (issuer generation roles) : Blind (ownKeyWithdraw issuer generation roles) := by
  intro s
  simp only [ownKeyWithdraw, veiled_slots, matchingSlots_veiled, withdraw_veiled, taintCount_veiled]
  repeat' split
  all_goals rfl

theorem ownStageCommit_blind (crc) : Blind (ownStageCommit crc) := by
  intro s
  simp only [ownStageCommit, State.commit, veiled_stager, veiled_slots, firstConflict_veiled, emptySlots_veiled,
    keysetDeadline_veiled, setStager_veiled]
  repeat' split
  all_goals simp

theorem ownRollover_blind (issuer a b start d1 d2 d3) : Blind (ownRollover issuer a b start d1 d2 d3) := by
  intro s
  simp only [ownRollover, veiled_clock, planRollover_veiled, veiled_rollovers, setRollovers_veiled]
  repeat' split
  all_goals rfl

theorem ownRollback_blind (issuer) : Blind (ownRollback issuer) := by
  intro s
  simp only [ownRollback, veiled_rollovers]
  repeat' split
  all_goals simp

theorem ownServiceOff_blind : Blind ownServiceOff := by
  intro s
  have live : s.veiled.liveIndices = s.liveIndices := rfl
  unfold ownServiceOff
  rw [veiled_service, live, setService_veiled, failEach_veiled,
    cancelJobs_veiled _ (q := fun j => j.work.isPrefetch) fun j => veiled_isPrefetch j.work]
  split <;> rfl

theorem ownSelftest_blind : Blind ownSelftest := by
  intro s
  have idle : s.veiled.jobs ≠ [] ↔ s.jobs ≠ [] := by simp
  simp only [ownSelftest, idle, veiled_service, veiled_suspended, veiled_u0, veiled_u1, veiled_isFree, beginTest_veiled]
  repeat' split
  all_goals rfl

theorem ownServiceOn_blind : Blind ownServiceOn := by
  intro s
  unfold ownServiceOn
  rw [veiled_service, veiled_test, veiled_clock]
  repeat' split
  all_goals rfl

/-- Every owner's event is blind to key material. -/
theorem own_blind {i : Instr} {own : State → State × Answer} (owner : ownerOf i = some own) : Blind own := by
  cases i <;> simp only [ownerOf, Option.some.injEq, reduceCtorEq] at owner <;> subst owner
  case openTag => exact ownOpen_blind _ _ _ _ _ _
  case verify => exact ownVerify_blind _ _
  case sealTag => exact ownSeal_blind _ _ _ _
  case prefetch => exact ownPrefetch_blind _ _ _
  case purge => exact ownPurge_blind _ _ _
  case stageCommit => exact ownStageCommit_blind _
  case keyRead => exact ownKeyRead_blind _
  case keyWithdraw => exact ownKeyWithdraw_blind _ _ _
  case rollover => exact ownRollover_blind _ _ _ _ _ _ _
  case rollback => exact ownRollback_blind _
  case serviceOn => exact ownServiceOn_blind
  case serviceOff => exact ownServiceOff_blind
  case selftest => exact ownSelftest_blind
  case status => exact fun s => congrArg (fun r => (s.veiled, Answer.status r)) (report_veiled s)
  case restart => exact fun s => rfl
  all_goals
    intro s
    simp only [ownClose, ownQuery, ownCollect, ownStageBegin, ownStageChunk, ownStageAbandon, ownTime, ownLanes,
      ownConfig, State.liveOnLanes, resolveHandle_veiled, veiled_stager, veiled_clock, veiled_mask, veiled_queue,
      veiled_jobs, jobOf_isSome_veiled, jobStatusOf_veiled, indicesWhere_veiled, freeContext_veiled,
      setMask_veiled, failEach_veiled]
    repeat' split
    all_goals rfl

/-! ### The other events -/

theorem replySent_veiled (s : State) : s.veiled.replySent = s.replySent.veiled := by
  simp only [State.replySent, veiled_restarting, veiled_link, beginReset_veiled, report_veiled, setLink_veiled]
  split
  · rfl
  · cases s.link.stage <;> rfl

theorem deadlineEvent_veiled (index : Nat) (s : State) :
    State.deadlineEvent index s.veiled = (State.deadlineEvent index s).veiled := by
  simp only [State.deadlineEvent, contextAt_veiled, due_veiled, failContext_veiled]
  cases s.contextAt index with
  | none => rfl
  | some c => exact (apply_ite State.veiled _ _ _).symm

theorem lingerEnd_veiled (index : Nat) (s : State) : State.lingerEnd index s.veiled = (State.lingerEnd index s).veiled := by
  simp only [State.lingerEnd, contextAt_veiled, due_veiled, freeContext_veiled]
  cases s.contextAt index with
  | none => rfl
  | some c => exact (apply_ite State.veiled _ _ _).symm

theorem phaseDue_veiled (issuer : Issuer) (s : State) : State.phaseDue issuer s.veiled = (State.phaseDue issuer s).veiled := by
  simp only [State.phaseDue, veiled_rollovers, due_veiled, applyPhase_veiled]
  cases findRollover s.rollovers issuer with
  | none => rfl
  | some r => exact (apply_ite State.veiled _ _ _).symm

theorem setPlacement_veiled (s : State) (p : Placement) :
    s.veiled.setU1 { s.u1.veiled with placement := p } = (s.setU1 { s.u1 with placement := p }).veiled := by
  simp [State.setU1, State.veiled, unit_veiled_eq]

theorem actOnEngine_veiled (s : State) (state : ThermalState) : s.veiled.actOnEngine state = (s.actOnEngine state).veiled := by
  cases state with
  | normal => exact (congrArg State.arbitrate (setPlacement_veiled (s.setSuspended false) .inService)).trans (arbitrate_veiled _)
  | throttled => exact setPlacement_veiled s .parked
  | suspended => exact setPlacement_veiled (s.setSuspended true) .parked

theorem takeReading_veiled (celsius : Int) (s : State) :
    State.takeReading celsius s.veiled = (State.takeReading celsius s).veiled := by
  simp only [State.takeReading, veiled_thermal, veiled_settings, setThermal_veiled, actOnEngine_veiled, post_veiled]
  exact (apply_ite State.veiled _ _ _).symm

theorem endTest_veiled (fault0 fault1 : UnitFault) (s : State) :
    State.endTest fault0 fault1 s.veiled = (State.endTest fault0 fault1 s).veiled := by
  simp only [State.endTest, veiled_test]
  cases s.test with
  | none => rfl
  | some origin =>
    have ended : (((s.veiled.setTest none).setU0 (s.veiled.u0.tested (passesTest fault0))).setU1
          (s.veiled.u1.tested (passesTest fault1))).setService
            (serviceAfterTest s.veiled.service origin (passesTest fault0) (passesTest fault1)) =
        ((((s.setTest none).setU0 (s.u0.tested (passesTest fault0))).setU1 (s.u1.tested (passesTest fault1))).setService
          (serviceAfterTest s.service origin (passesTest fault0) (passesTest fault1))).veiled := by
      simp [State.veiled, State.setTest, State.setU0, State.setU1, State.setService, CipherUnit.tested, unit_veiled_eq,
        veiledActivity]
    simp only [ended, post_veiled, arbitrate_veiled]

theorem endReset_veiled (s : State) (rate1 rate0 : Bool) : s.veiled.endReset rate1 rate0 = (s.endReset rate1 rate0).veiled := by
  have mark : ((s.clearVolatile.veiled.setPower .running).setStraps (rate1, rate0))
      = ((s.clearVolatile.setPower .running).setStraps (rate1, rate0)).veiled := setRunning_veiled _ _ _
  simp only [State.endReset, clearVolatile_veiled, mark, setService_veiled, beginTest_veiled]
  exact (apply_ite State.veiled _ _ _).symm

theorem zeroized_veiled (s : State) : s.veiled.zeroized = s.zeroized.veiled := by
  simp [State.zeroized, State.veiled, unit_veiled_eq, veiledActivity, Slot.veiled, Slot.blank]

/-! ### Every command -/

/-- A command that is blind to key material: from the blanked state it makes the same state beside the keys. -/
def BlindCommand (command : State → Host.Outcome State Fault Refusal) : Prop :=
  ∀ s t, command s = .next t → ∃ t', command s.veiled = .next t' ∧ t'.veiled = t.veiled

theorem next_blind {effect : State → State} (blind : ∀ s, effect s.veiled = (effect s).veiled) :
    BlindCommand fun s => .next (effect s) := by
  rintro s _ ⟨⟩
  exact ⟨_, rfl, by rw [blind, veiled_veiled]⟩

theorem event_blind {effect : State → State} (blind : ∀ s, effect s.veiled = (effect s).veiled) :
    BlindCommand (event effect) := by
  intro s t h
  by_cases running : s.power = .running
  · rw [event_running running] at h
    rw [event_running (s := s.veiled) running]
    exact next_blind blind s t h
  · rw [event_stopped running] at h
    rw [event_stopped (s := s.veiled) running]
    exact next_blind (effect := fun s => s) (fun _ => rfl) s t h

theorem request_blind {i : Instr} {own : State → State × Answer} (owner : ownerOf i = some own) :
    BlindCommand (request i own) := by
  intro s t h
  by_cases running : s.power = .running
  · cases refusal : s.linkRefusal i with
    | some r =>
      rw [request_refused running refusal] at h
      rw [request_refused (s := s.veiled) running refusal]
      exact next_blind (effect := fun s => s.answered i (.refuse r)) (fun s => answered_veiled s i _) s t h
    | none =>
      rw [request_taken running refusal] at h
      rw [request_taken (s := s.veiled) running refusal, own_blind owner s]
      cases h
      exact ⟨_, rfl, by rw [answered_veiled, veiled_veiled]⟩
  · rw [request_stopped running] at h
    rw [request_stopped (s := s.veiled) running]
    exact next_blind (effect := fun s => s) (fun _ => rfl) s t h

theorem exec_request_blind {i : Instr} {own : State → State × Answer} (owner : ownerOf i = some own) :
    BlindCommand (exec i) := by
  by_cases wf : i.wellFormed = true
  · have same : exec i = request i own := funext fun s => exec_of_ownerOf owner wf s
    exact same ▸ request_blind owner
  · cases i <;> simp only [Instr.wellFormed, ownerOf, reduceCtorEq, not_true_eq_false] at wf owner
    case stageChunk offset bytes =>
      have ill : (Instr.stageChunk offset bytes).wellFormed ≠ true := wf
      have same : exec (.stageChunk offset bytes) = event fun s =>
          s.answered (.stageChunk offset bytes) (.refuse (.badLength (BitVec.ofNat 8 (bytes.length + 2)))) :=
        funext fun s => by rw [exec, execStageChunk, if_neg ill]
      exact same ▸ event_blind fun s => answered_veiled s _ _

theorem exec_event_blind {i : Instr} (unowned : ownerOf i = none) (noCompletion : ∀ name, i ≠ .operationComplete name) :
    BlindCommand (exec i) := by
  cases i <;> simp only [ownerOf, reduceCtorEq] at unowned
  case frameReceived last =>
    refine event_blind fun s => ?_
    rw [veiled_link, report_veiled, setLink_veiled, ← apply_ite State.veiled]
  case frameGapTimeout => exact event_blind fun s => rfl
  case byteReceived byte => exact event_blind fun s => by rw [veiled_link, report_veiled, setLink_veiled]
  case replyComplete => exact event_blind replySent_veiled
  case laneTimeTick => exact event_blind fun s => rfl
  case deadlineEvent index => exact event_blind (deadlineEvent_veiled index)
  case lingerEnd index => exact event_blind (lingerEnd_veiled index)
  case windowEnd =>
    refine event_blind fun s => ?_
    rw [endedSlots_veiled, withdraw_veiled, ← apply_ite State.veiled]
  case phaseDue issuer => exact event_blind (phaseDue_veiled issuer)
  case prefetchExpiry sequence =>
    exact event_blind fun s => cancelJobs_veiled s fun j =>
      congrArg (fun b => decide (j.sequence = sequence) && b && !j.started && s.due (j.time + 1000)) (veiled_isPrefetch j.work)
  case thermalReading celsius => exact event_blind (takeReading_veiled celsius)
  case operationComplete name => exact absurd rfl (noCompletion name)
  case selftestEnd fault0 fault1 => exact event_blind (endTest_veiled fault0 fault1)
  case powerOn => exact next_blind fun s => by rw [beginReset_veiled, ← apply_ite State.veiled]; rfl
  case supplyLoss => exact next_blind fun s => by rw [clearVolatile_veiled]; rfl
  case resetNLow => exact next_blind fun s => by rw [beginReset_veiled, ← apply_ite State.veiled]; rfl
  case resetEnd rate1 rate0 => exact next_blind fun s => by rw [endReset_veiled, ← apply_ite State.veiled]; rfl
  case zeroize => exact next_blind fun s => by rw [zeroized_veiled, ← apply_ite State.veiled]; rfl
  case provisioning key =>
    rintro s _ ⟨⟩
    exact ⟨_, rfl, congrArg (fun x : State => (x.setTransport (some ⟨0, checkValueOf key⟩)).setZeroizedMark false)
      (veiled_veiled s)⟩

/-- Every command but the completion of an operation is blind to key material. -/
theorem exec_blind {i : Instr} (noCompletion : ∀ name, i ≠ .operationComplete name) : BlindCommand (exec i) := by
  cases owner : ownerOf i with
  | none => exact exec_event_blind owner noCompletion
  | some own => exact exec_request_blind owner

/-- Settles O59: both states make what their common blanked state makes, beside the keys. -/
theorem keysStayInside : Obligations.KeysStayInside := by
  intro i s u s' u' noCompletion alike hs hu
  obtain ⟨a, from_s, a_veiled⟩ := exec_blind noCompletion s s' hs
  obtain ⟨b, from_u, b_veiled⟩ := exec_blind noCompletion u u' hu
  rw [alike, from_u] at from_s
  cases from_s
  rw [← a_veiled, b_veiled]

end Sys2Proof.Machine.KeysInside

/-! The capacities (R1, R38, R56, R68, R73, R115, R161, R166): most operations leave every table within what it held before;
the few that add an element do so where a check has found room. -/

namespace Sys2Proof.Machine.Capacities

open Changes
open TableLaws (atRest)

/-- The keyset jobs on a queue. -/
def keysetJobs (jobs : List Job) : Nat := jobs.countP (·.work.isKeyset)

/-- The capacities. -/
structure Fits (s : State) : Prop where
  tables : s.tablesSized
  queue : s.queueBounded
  cache : s.cacheBounded
  rollovers : s.rolloversBounded
  link : s.linkBounded
  prefetches : prefetchJobs s.jobs ≤ 15
  keyset : keysetJobs s.jobs ≤ 1
  /-- A keyset job belongs to a commit. -/
  commit : (∀ l, s.stager ≠ .committing l) → keysetJobs s.jobs = 0

theorem fits_iff (s : State) : Fits s ↔
    s.tablesSized ∧ s.queueBounded ∧ s.cacheBounded ∧ s.rolloversBounded ∧ s.linkBounded ∧ s.jobsLawful := by
  constructor
  · rintro ⟨tables, queue, cache, rollovers, link, prefetches, keyset, commit⟩
    refine ⟨tables, queue, cache, rollovers, link, prefetches, ?_⟩
    cases stager : s.stager with
    | committing l => exact keyset
    | idle => exact (commit (by simp [stager])).le
    | receiving l => exact (commit (by simp [stager])).le
  · rintro ⟨tables, queue, cache, rollovers, link, prefetches, keyset⟩
    refine ⟨tables, queue, cache, rollovers, link, prefetches, ?_, fun none => ?_⟩
    · refine keyset.trans ?_
      split <;> omega
    · cases stager : s.stager with
      | committing l => exact absurd stager (none l)
      | idle => simpa [stager, keysetJobs] using keyset
      | receiving l => simpa [stager, keysetJobs] using keyset

/-! ### What adds nothing -/

/-- The jobs of a queue are no more than those of another, kind by kind. -/
structure FewerJobs (before after : List Job) : Prop where
  prefetches : prefetchJobs after ≤ prefetchJobs before
  keyset : keysetJobs after ≤ keysetJobs before

theorem FewerJobs.refl (jobs : List Job) : FewerJobs jobs jobs := ⟨le_rfl, le_rfl⟩

theorem FewerJobs.of_sublist {before after : List Job} (h : after.Sublist before) : FewerJobs before after :=
  ⟨h.countP_le, h.countP_le⟩

/-- Jobs of the same kinds, in their order. -/
theorem FewerJobs.of_kinds {before after : List Job}
    (h : after.map (fun j => (j.work.isPrefetch, j.work.isKeyset)) = before.map fun j => (j.work.isPrefetch, j.work.isKeyset)) :
    FewerJobs before after := by
  have counted (p : Bool × Bool → Bool) (jobs : List Job) :
      jobs.countP (fun j => p (j.work.isPrefetch, j.work.isKeyset))
        = (jobs.map fun j => (j.work.isPrefetch, j.work.isKeyset)).countP p := by
    rw [List.countP_map]
    rfl
  have same (p : Bool × Bool → Bool) := ((counted p after).trans (congrArg (List.countP p) h)).trans (counted p before).symm
  exact ⟨(same Prod.fst).le, (same Prod.snd).le⟩

/-- A state whose tables are no fuller than those of another; the cache and the Completion Queue may fill up to their
capacities. -/
structure Within (s t : State) : Prop where
  slots : t.slots.length = s.slots.length
  places : t.places.length = s.places.length
  queue : s.queueBounded → t.queueBounded
  cache : s.cacheBounded → t.cacheBounded
  rollovers : t.rollovers.length ≤ s.rollovers.length
  link : t.link.entries = s.link.entries
  jobs : FewerJobs s.jobs t.jobs
  stager : t.stager = s.stager

variable {s t u : State}

theorem Within.refl (s : State) : Within s s := ⟨rfl, rfl, id, id, le_rfl, rfl, .refl _, rfl⟩

theorem Within.trans (h : Within s t) (k : Within t u) : Within s u where
  slots := k.slots.trans h.slots
  places := k.places.trans h.places
  queue := k.queue ∘ h.queue
  cache := k.cache ∘ h.cache
  rollovers := k.rollovers.trans h.rollovers
  link := k.link.trans h.link
  jobs := ⟨k.jobs.prefetches.trans h.jobs.prefetches, k.jobs.keyset.trans h.jobs.keyset⟩
  stager := k.stager.trans h.stager

theorem Within.fits (h : Within s t) (law : Fits s) : Fits t where
  tables := ⟨h.slots.trans law.tables.1, h.places.trans law.tables.2⟩
  queue := h.queue law.queue
  cache := h.cache law.cache
  rollovers := h.rollovers.trans law.rollovers
  link := by simpa [State.linkBounded, Link.requests, Link.notes, h.link] using law.link
  prefetches := h.jobs.prefetches.trans law.prefetches
  keyset := h.jobs.keyset.trans law.keyset
  commit none := Nat.le_zero.mp (law.commit (h.stager ▸ none) ▸ h.jobs.keyset)

theorem within_of_beside (h : Beside s t) : Within s t where
  slots := by rw [h.slots]
  places := by rw [h.places]
  queue := by simp [State.queueBounded, h.queue]
  cache := by simp [State.cacheBounded, h.cache]
  rollovers := by rw [h.rollovers]
  link := by rw [h.link]
  jobs := by
    have kinds := congrArg (List.map fun j => (j.work.isPrefetch, j.work.isKeyset)) h.jobs
    exact .of_kinds (by simpa [Function.comp_def, atRest] using kinds)
  stager := h.stager

theorem within_arbitrate (s : State) : Within s s.arbitrate := within_of_beside (.arbitrate s)

theorem within_post (s : State) (r : CompletionRecord) : Within s (s.post r) where
  slots := by simp
  places := by simp
  queue := State.post_bounded r
  cache := by simp
  rollovers := by simp
  link := by simp
  jobs := by simpa using .refl _
  stager := by simp

theorem within_setCache {cache : List CacheEntry} (h : s.cacheBounded → cache.length ≤ 256) : Within s (s.setCache cache) :=
  { Within.refl s with cache := h }

theorem within_setSlots {slots : List Slot} (h : slots.length = s.slots.length) : Within s (s.setSlots slots) :=
  { Within.refl s with slots := h }

theorem within_setPlaces {places : List Place} (h : places.length = s.places.length) : Within s (s.setPlaces places) :=
  { Within.refl s with places := h }

theorem within_setJobs {jobs : List Job} (h : FewerJobs s.jobs jobs) : Within s (s.setJobs jobs) :=
  { Within.refl s with jobs := h }

theorem within_setUnit (s : State) (name : UnitName) (v : CipherUnit) : Within s (s.setUnit name v) := by
  cases name <;> exact { Within.refl s with }

theorem within_setRollovers {rollovers : List Rollover} (h : rollovers.length ≤ s.rollovers.length) :
    Within s (s.setRollovers rollovers) :=
  { Within.refl s with rollovers := h }

/-! ### The operations of the tables -/

theorem within_cancelJobs (s : State) (p : Job → Bool) : Within s (s.cancelJobs p) :=
  within_setJobs (.of_sublist List.filter_sublist)

theorem within_updateContext (s : State) (n : Nat) (f : Context → Context) : Within s (s.updateContext n f) :=
  within_setPlaces (List.length_modify ..)

theorem within_releasePin (s : State) (h : Handle) (role : Role) : Within s (s.releasePin h role) :=
  within_setCache ((List.length_filterMap_le ..).trans ·)

theorem within_touch (s : State) (issuer : Issuer) (serial : Serial) (generation : Generation) (role : Role) :
    Within s (s.touch issuer serial generation role) := by
  refine within_setCache fun bounded => ?_
  rwa [moveToFront, (List.filter_append_perm _ _).length_eq]

theorem within_pinEntry (s : State) (h : Handle) (issuer : Issuer) (serial : Serial) (generation : Generation) (role : Role) :
    Within s (s.pinEntry h issuer serial generation role) :=
  within_setCache ((List.length_map ..).le.trans ·)

theorem within_touchAndPin (s : State) (hit : Bool) (h : Handle) (issuer : Issuer) (serial : Serial) (generation : Generation)
    (role : Role) : Within s (s.touchAndPin hit h issuer serial generation role) := by
  unfold State.touchAndPin
  split
  · exact (within_touch s ..).trans (within_pinEntry ..)
  · exact .refl s

/-- A LANE job is neither a prefetch job nor a keyset job. -/
theorem within_place_lane (s : State) {work : Work} (prefetch : work.isPrefetch = false) (keyset : work.isKeyset = false)
    (operations : List Operation) (time : Nat) : Within s (s.place work operations time) := by
  have fewer : FewerJobs s.jobs (s.jobs ++ [⟨work, operations, time, s.nextSequence, false, false⟩]) := by
    constructor <;> simp [prefetchJobs, keysetJobs, prefetch, keyset]
  exact { Within.refl s with jobs := fewer }

theorem within_failContext (s : State) (n : Nat) (reason : FailReason) (posted : Bool) :
    Within s (s.failContext n reason posted) := by
  unfold State.failContext
  repeat' split
  · exact ((((within_updateContext s n _).trans (within_cancelJobs ..)).trans (within_releasePin ..)).trans
      (within_releasePin ..)).trans (within_post ..)
  · exact (((within_updateContext s n _).trans (within_cancelJobs ..)).trans (within_releasePin ..)).trans
      (within_releasePin ..)
  all_goals exact .refl s

theorem within_failEach (s : State) (indices : List Nat) (reason : FailReason) : Within s (s.failEach indices reason) := by
  induction indices generalizing s with
  | nil => exact .refl s
  | cons n rest ih => exact (within_failContext s n reason true).trans (ih _)

theorem length_unbind (c : Context) (slots : List Slot) : (unbind c slots).length = slots.length := by
  unfold unbind lowerBound
  dsimp only
  split <;> split <;> simp

theorem within_freeContext (s : State) (n : Nat) (c : Context) : Within s (s.freeContext n c) := by
  have released := ((within_cancelJobs s fun j => decide (j.work.owner = some c.handle)).trans
    (within_releasePin _ c.handle .auth)).trans (within_releasePin _ c.handle .seal)
  exact { released with slots := length_unbind c s.slots, places := List.length_modify .. }

theorem within_takeOpen (s : State) (c : Context) (p : OpenPlan) : Within s (s.takeOpen c p) := by
  have bound : Within s (((s.setPlaces (s.places.set p.index ⟨s.nextUse p.index, some c⟩)).setDraws (s.draws + 1)).setSlots
      (raiseBound (raiseBound s.slots p.auth.slot) p.sealKey.slot)) :=
    { Within.refl s with slots := by simp [raiseBound], places := by simp }
  exact (((bound.trans (within_touchAndPin ..)).trans (within_touchAndPin ..)).trans
    (within_place_lane _ rfl rfl _ _)).trans (within_arbitrate _)

theorem within_takeSeal (s : State) (n : Nat) (c : Context) (record : SealRecord) : Within s (s.takeSeal n c record) :=
  (((within_touchAndPin s ..).trans (within_updateContext ..)).trans (within_place_lane _ rfl rfl _ _)).trans
    (within_arbitrate _)

/-! ### Withdrawal and phases -/

theorem length_emptyEach (slots : List Slot) (found : List Nat) : (emptyEach slots found).length = slots.length := by
  induction found generalizing slots with
  | nil => rfl
  | cons i rest ih => exact (ih _).trans (List.length_modify ..)

theorem within_postAbandoned (s : State) (records : List Rollover) : Within s (s.postAbandoned records) := by
  induction records generalizing s with
  | nil => exact .refl s
  | cons r rest ih => exact (within_post s _).trans (ih _)

theorem within_withdraw (s : State) (found : List Nat) : Within s (s.withdraw found) := by
  have tainted : Within s (((s.setSlots (emptyEach s.slots found)).setCache
      (s.cache.filterMap (CacheEntry.withdrawn s.slots found))).setPlaces
        (s.places.map fun p => { p with context := p.context.map (Context.tainted s.slots found) })) :=
    { Within.refl s with
      slots := length_emptyEach ..
      places := List.length_map ..
      cache := ((List.length_filterMap_le ..).trans ·) }
  have failed := tainted.trans (within_failEach _ (s.indicesWhere (Context.jobReached s.slots s.jobs found)) .keyWithdrawn)
  exact (failed.trans (within_setRollovers (by simpa using List.length_filter_le ..))).trans (within_postAbandoned ..)

theorem within_applyPhase (s : State) (r : Rollover) : Within s (s.applyPhase r) := by
  unfold State.applyPhase
  dsimp only
  split
  · refine Within.trans ?_ (within_post ..)
    exact { Within.refl s with
      slots := (DirectoryLaws.restates_advanceSlots r s.slots).length
      rollovers := (List.length_map ..).le }
  · have removed : Within s (s.setRollovers (removeRollover s.rollovers r.issuer)) :=
      within_setRollovers (List.length_filter_le ..)
    exact (removed.trans (within_withdraw ..)).trans (within_post ..)

/-! ### The completion of an operation -/

theorem length_evictLast {cache room : List CacheEntry} (h : evictLast cache = some room) : room.length + 1 = cache.length := by
  induction cache generalizing room with
  | nil => cases h
  | cons e rest ih =>
    unfold evictLast at h
    split at h
    · cases h
      simp [ih ‹_›]
    · split at h <;> cases h
      rfl

/-- There is room for one more entry (R62). -/
theorem length_makeRoom {cache room : List CacheEntry} (bounded : cache.length ≤ 256) (h : makeRoom cache = some room) :
    room.length + 1 ≤ 256 := by
  unfold makeRoom at h
  split at h
  · cases h
    omega
  · exact (length_evictLast h).le.trans bounded

theorem within_insert (s : State) (issuer : Issuer) (serial : Serial) (generation : Generation) (role : Role) (slot : Nat)
    (epoch : Epoch) (pin : Option Handle) (masterKey : Option Key) :
    Within s (s.insert issuer serial generation role slot epoch pin masterKey) := by
  unfold State.insert
  repeat' split
  · exact (within_touch s ..).trans (within_pinEntry ..)
  · exact within_touch s ..
  · exact within_setCache fun bounded => length_makeRoom bounded ‹_›
  all_goals exact .refl s

theorem within_forOwner (s : State) (h : Handle) {act : Nat → Context → State → State}
    (within : ∀ n c, Within s (act n c s)) : Within s (s.forOwner h act) := by
  unfold State.forOwner
  split
  · exact within _ _
  · exact .refl s

theorem within_laneDerivation (s : State) (h : Handle) (op : Operation) (masterKey : Option Key) :
    Within s (s.laneDerivation h op masterKey) := by
  unfold State.laneDerivation
  split
  · exact within_forOwner s h fun _ _ => (within_insert s ..).trans (within_updateContext ..)
  · exact .refl s

/-- What a completed operation hands to its owner (R119). -/
theorem within_handOver (s : State) (work : Work) (op : Operation) (masterKey : Option Key) :
    Within s (s.handOver work op masterKey) := by
  cases work with
  | opening h =>
    simp only [State.handOver]
    split
    · exact within_forOwner s h fun _ _ => (within_updateContext s ..).trans (within_post ..)
    · exact within_laneDerivation ..
  | verifying h proof =>
    rw [State.handOver, State.finishTagProof]
    refine within_forOwner s h fun _ _ => ?_
    split
    · exact ((within_updateContext s ..).trans (within_releasePin ..)).trans (within_post ..)
    · exact within_failContext ..
  | sealing h r first =>
    simp only [State.handOver]
    split
    · exact within_forOwner s h fun _ _ => within_updateContext s ..
    · exact within_forOwner s h fun _ _ => ((within_updateContext s ..).trans (within_releasePin ..)).trans (within_post ..)
    · exact within_laneDerivation ..
  | keyset => exact .refl s
  | prefetch issuer serial =>
    simp only [State.handOver, State.prefetchDerivation]
    split
    · exact within_insert ..
    · exact .refl s

/-- An operation leaves the kind of its job (R114). -/
theorem workAfter_kind (s : State) (work : Work) (op : Operation) :
    (s.workAfter work op).isPrefetch = work.isPrefetch ∧ (s.workAfter work op).isKeyset = work.isKeyset := by
  unfold State.workAfter
  split <;> exact ⟨rfl, rfl⟩

theorem fewerJobs_updateJob (jobs : List Job) (sequence : Nat) {f : Job → Job}
    (kind : ∀ j, (f j).work.isPrefetch = j.work.isPrefetch ∧ (f j).work.isKeyset = j.work.isKeyset) :
    FewerJobs jobs (updateJob jobs sequence f) := by
  refine .of_kinds ?_
  rw [updateJob, List.map_map]
  refine List.map_congr_left fun j _ => ?_
  rw [Function.comp_apply]
  split
  · rw [(kind j).1, (kind j).2]
  · rfl

theorem within_middleOperation (s : State) (name : UnitName) (j : Job) (op : Operation) (rest : List Operation)
    (masterKey : Option Key) : Within s (s.middleOperation name j op rest masterKey) := by
  have handed := within_handOver s j.work op masterKey
  have updated {f : Job → Job} (kind : ∀ x, (f x).work = s.workAfter x.work op) :=
    handed.trans (within_setJobs (fewerJobs_updateJob (s.handOver j.work op masterKey).jobs j.sequence (f := f) fun x => by
      rw [kind]
      exact workAfter_kind s x.work op))
  unfold State.middleOperation
  dsimp only
  split
  · exact (updated (f := s.advanceJob op) fun _ => rfl).trans (within_setUnit ..)
  · exact (updated (f := fun x => { s.advanceJob op x with running := false }) fun _ => rfl).trans
      (within_of_beside (.freeUnit_arbitrate _ name))

theorem endKeyset_of_other (s : State) {work : Work} (keyset : work.isKeyset = false) : s.endKeyset work = s := by
  cases work with
  | keyset => cases keyset
  | _ => rfl

theorem length_installEach (slots : List Slot) (installs : List (ImageRecord × Key)) :
    (installEach slots installs).1.length = slots.length := by
  induction installs generalizing slots with
  | nil => rfl
  | cons install rest ih =>
    obtain ⟨r, key⟩ := install
    simp only [installEach]
    split
    · rfl
    · exact (ih _).trans (List.length_modify ..)

/-- The end of a commit leaves the Stager IDLE (R31). -/
theorem within_completeCommit (s : State) (l : Load) (keys : List Key) (results : List Bool) :
    Within (s.setStager .idle) (s.completeCommit l keys results) := by
  unfold State.completeCommit
  dsimp only
  split
  · exact within_post ..
  split
  · exact (within_setSlots (length_installEach ..)).trans (within_post ..)
  · exact within_post ..

/-- A keyset job's last operation removes the one keyset job with the commit that it belongs to. -/
theorem lastOperation_fits (law : Fits s) {j : Job} (mem : j ∈ s.jobs) (name : UnitName) (op : Operation)
    (masterKey : Option Key) : Fits (s.lastOperation name j op masterKey) := by
  have ended : Within s (s.endJob j.sequence) := within_setJobs (.of_sublist List.filter_sublist)
  have handed := ended.trans (within_handOver (s.endJob j.sequence) j.work op masterKey)
  have freed (u : State) : Within u (u.freeUnit name).arbitrate := within_of_beside (.freeUnit_arbitrate u name)
  refine (freed _).fits ?_
  cases keyset : j.work.isKeyset with
  | false =>
    rw [endKeyset_of_other _ ((workAfter_kind s j.work op).2.trans keyset)]
    exact handed.fits law
  | true =>
    have none : keysetJobs (s.endJob j.sequence).jobs = 0 := by
      have one := law.keyset
      have both := List.countP_eq_countP_filter_add s.jobs (fun x => x.work.isKeyset) fun x => decide (x.sequence = j.sequence)
      have mine : 0 < (s.jobs.filter fun x => decide (x.sequence = j.sequence)).countP fun x => x.work.isKeyset :=
        List.countP_pos_iff.mpr ⟨j, List.mem_filter.mpr ⟨mem, by simp⟩, keyset⟩
      simp only [keysetJobs, State.endJob, State.setJobs_jobs] at one ⊢
      omega
    obtain ⟨l, keys, results, work⟩ : ∃ l keys results, s.workAfter j.work op = .keyset l keys results := by
      have kind := (workAfter_kind s j.work op).2.trans keyset
      cases work : s.workAfter j.work op with
      | keyset l keys results => exact ⟨l, keys, results, rfl⟩
      | _ => simp [work, Work.isKeyset] at kind
    rw [work]
    refine (within_completeCommit ..).fits ?_
    have before := handed.fits law
    exact { before with commit := fun _ => Nat.le_zero.mp (none ▸ (within_handOver (s.endJob j.sequence) ..).jobs.keyset) }

/-! ### The answer list (R161) -/

/-- The counts of the answer list. -/
def Listed (entries : List Entry) : Prop :=
  entries.countP Entry.isRequest ≤ 4 ∧ entries.countP (fun e => !e.isRequest) ≤ 8

theorem joinEntries_listed {entries : List Entry} (law : Listed entries) (kind tag : Byte) (body : List Byte) :
    Listed (joinEntries entries kind tag body) := by
  obtain ⟨requests, notes⟩ := law
  have joined : (Entry.request kind tag body).isRequest = true := rfl
  have noted : (Entry.overrun kind tag).isRequest = false := rfl
  unfold joinEntries
  split
  · constructor <;> simp [joined] <;> omega
  split
  · constructor <;> simp [noted] <;> omega
  · exact ⟨requests, notes⟩

theorem beginHead_entries (l : Link) (now : StatusReport) : (l.beginHead now).entries = l.entries := by
  unfold Link.beginHead
  split <;> rfl

theorem join_listed {l : Link} (law : Listed l.entries) (now : StatusReport) (kind tag : Byte) (body : List Byte) :
    Listed (l.join now kind tag body).entries := by
  unfold Link.join
  split
  · rename_i empty
    rw [beginHead_entries]
    exact joinEntries_listed (empty ▸ law) kind tag body
  · rename_i held
    exact joinEntries_listed (held ▸ law) kind tag body

theorem receive_listed {l : Link} (law : Listed l.entries) (now : StatusReport) (byte : Byte) :
    Listed (l.receive now byte).entries := by
  have completed (length : Byte) (received : List Byte) : Listed (l.complete now length received).entries := by
    unfold Link.complete
    dsimp only
    split
    · split
      · exact join_listed (l := { l with receiver := .hunting }) law ..
      · exact law
    · exact law
  unfold Link.receive
  split
  · split <;> exact law
  · split <;> exact law
  · split
    · exact law
    · exact completed ..

theorem abandon_entries (l : Link) : l.abandon.entries = l.entries := by
  unfold Link.abandon
  split <;> rfl

theorem deliver_entries (l : Link) (i : Instr) (a : Answer) : (l.deliver i a).entries = l.entries := by
  unfold Link.deliver
  split <;> rfl

theorem Fits.setLink (law : Fits s) {l : Link} (listed : Listed l.entries) : Fits (s.setLink l) :=
  { law with link := listed }

/-! ### Every step -/

/-- Every change keeps the capacities. -/
theorem change_fits {i : Instr} (law : Fits s) (change : Change s i t) : Fits t := by
  cases change with
  | beside h => exact (within_of_beside h).fits law
  | posts r before after =>
    exact (((within_of_beside before).trans (within_post ..)).trans (within_of_beside after)).fits law
  | hears _ byte => exact law.setLink (receive_listed law.link ..)
  | abandons => exact law.setLink (by rw [abandon_entries]; exact law.link)
  | replies =>
    obtain ⟨requests, notes⟩ := law.link
    refine law.setLink ?_
    rw [beginHead_entries]
    exact ⟨((List.tail_sublist _).countP_le).trans requests, ((List.tail_sublist _).countP_le).trans notes⟩
  | opens => exact (within_takeOpen ..).fits law
  | verifies _ n h proof time =>
    exact (((within_updateContext s n _).trans (within_place_lane _ rfl rfl _ _)).trans (within_arbitrate _)).fits law
  | seals => exact (within_takeSeal ..).fits law
  | fails => exact (within_failContext ..).fits law
  | frees => exact (within_freeContext ..).fits law
  | looks => exact ((within_touch s ..).trans (within_touch ..)).fits law
  | queues _ issuer serial generation sealGeneration operations time room =>
    have looked := (within_touch s issuer serial generation .auth).trans (within_touch _ issuer serial sealGeneration .seal)
    have before := looked.fits law
    refine (within_arbitrate _).fits { before with prefetches := ?_, keyset := ?_, commit := fun none => ?_ }
    · have := looked.jobs.prefetches
      simp [prefetchJobs, State.place, Work.isPrefetch] at this room ⊢
      omega
    · simpa [keysetJobs, State.place, Work.isKeyset] using before.keyset
    · simpa [keysetJobs, State.place, Work.isKeyset] using before.commit none
  | purges => exact (within_setCache ((List.length_filterMap_le ..).trans ·)).fits law
  | cancels => exact (within_cancelJobs ..).fits law
  | collects _ n =>
    exact { law with queue := by simpa using (Nat.sub_le _ n).trans law.queue }
  | stages _ before => exact { law with commit := fun _ => law.commit before }
  | commits _ before l operations time =>
    have idle := law.commit before
    refine (within_arbitrate _).fits { law with prefetches := ?_, keyset := ?_, commit := fun none => absurd rfl (none _) }
    · simpa [prefetchJobs, State.place, Work.isPrefetch] using law.prefetches
    · have one : keysetJobs (s.jobs ++ [⟨.keyset l [] [], operations, time, s.nextSequence, false, false⟩]) = 1 := by
        rw [keysetJobs, List.countP_append, ← keysetJobs, idle]
        rfl
      exact one.le
  | withdraws => exact (within_withdraw ..).fits law
  | plans _ _ _ _ _ plan =>
    refine { law with rollovers := ?_ }
    have room : s.rollovers.length < 8 := by
      unfold State.planRollover at plan
      split at plan
      · cases plan
      split at plan
      · cases plan
      · omega
    simpa [(DirectoryLaws.addRollover_perm _ _).length_eq] using room
  | rollsBack =>
    refine (Within.trans (t := State.setRollovers (s.setSlots _) _) ?_ (within_post ..)).fits law
    exact { Within.refl s with
      slots := (Scheduling.restates_undoSlots _ s.slots).length
      rollovers := List.length_filter_le .. }
  | advances => exact (within_applyPhase ..).fits law
  | closesLanes _ mask => exact (within_failEach (s.setMask mask) ..).fits { law with }
  | leavesService =>
    exact ((within_failEach (s.setService .serviceOff) ..).trans (within_cancelJobs ..)).fits { law with }
  | ends mem => exact lastOperation_fits law mem ..
  | goesOn => exact (within_middleOperation ..).fits law
  | resets _ h =>
    have cleared : Fits s.clearVolatile :=
      { tables := ⟨(List.length_map ..).trans law.tables.1, List.length_replicate⟩
        queue := Nat.zero_le _
        cache := Nat.zero_le _
        rollovers := law.rollovers
        link := ⟨Nat.zero_le _, Nat.zero_le _⟩
        prefetches := Nat.zero_le _
        keyset := Nat.zero_le _
        commit := fun _ => rfl }
    exact (within_of_beside h).fits cleared
  | zeroizes =>
    exact
      { tables := ⟨List.length_replicate, List.length_replicate⟩
        queue := Nat.zero_le _
        cache := Nat.zero_le _
        rollovers := Nat.zero_le _
        link := law.link
        prefetches := Nat.zero_le _
        keyset := Nat.zero_le _
        commit := fun _ => rfl }
  | provisions => exact { law with }

/-! ### The 64 jobs of the Work Queue (R115) -/

/-- Every job is a LANE job, a prefetch job or a keyset job. -/
theorem length_jobs (jobs : List Job) :
    jobs.length = (jobs.filterMap (·.work.owner)).length + prefetchJobs jobs + keysetJobs jobs := by
  induction jobs with
  | nil => rfl
  | cons j rest ih =>
    have kinds : ((j.work.owner.isSome = true ∧ j.work.isPrefetch = false ∧ j.work.isKeyset = false) ∨
        (j.work.owner = none ∧ j.work.isPrefetch = true ∧ j.work.isKeyset = false) ∨
        (j.work.owner = none ∧ j.work.isPrefetch = false ∧ j.work.isKeyset = true)) := by
      cases j.work <;> simp [Work.owner, Work.isPrefetch, Work.isKeyset]
    simp only [prefetchJobs, keysetJobs] at ih ⊢
    rcases kinds with ⟨owned, prefetch, keyset⟩ | ⟨owned, prefetch, keyset⟩ | ⟨owned, prefetch, keyset⟩
    · obtain ⟨h, owned⟩ := Option.isSome_iff_exists.mp owned
      simp [owned, prefetch, keyset]
      omega
    · simp [owned, prefetch, keyset]
      omega
    · simp [owned, prefetch, keyset]
      omega

/-- The LANE jobs serve contexts at different indices of the 48 (R115). -/
theorem lane_jobs_le (work : s.workLawful) : (s.jobs.filterMap (·.work.owner)).length ≤ 48 := by
  obtain ⟨-, -, serve, nodup, -⟩ := work
  have placed (h : Handle) (mem : h ∈ s.jobs.filterMap (·.work.owner)) :
      h.toNat % 64 < 48 ∧ ∃ c, s.places[h.toNat % 64]? = some ⟨h.toNat / 64, some c⟩ := by
    obtain ⟨j, mem, owner⟩ := List.mem_filterMap.mp mem
    obtain ⟨i, c, l, resolves, -, -⟩ := serve j mem h owner
    obtain ⟨rfl, lt, at_i⟩ := State.resolveHandle_eq_some.mp resolves
    exact ⟨lt, c, at_i⟩
  have apart : ((s.jobs.filterMap (·.work.owner)).map fun h => h.toNat % 64).Nodup := by
    refine List.Nodup.map_on (fun h mem k mem' same => ?_) nodup
    obtain ⟨-, c, at_h⟩ := placed h mem
    obtain ⟨-, d, at_k⟩ := placed k mem'
    rw [same, at_k] at at_h
    injection at_h with place
    injection place with use
    exact CacheLaws.handle_eq same use.symm
  have among : (s.jobs.filterMap (·.work.owner)).map (fun h => h.toNat % 64) ⊆ List.range 48 := by
    intro n mem
    obtain ⟨h, owned, rfl⟩ := List.mem_map.mp mem
    exact List.mem_range.mpr (placed h owned).1
  simpa using (List.subperm_of_subset apart among).length_le

theorem jobs_le (law : Fits s) (work : s.workLawful) : s.jobs.length ≤ 64 := by
  have lane := lane_jobs_le work
  have prefetches := law.prefetches
  have keyset := law.keyset
  rw [length_jobs]
  omega

/-- Settles O56: every change keeps the capacities, and an answer leaves the entries of the answer list. -/
theorem capacitiesAreKept : Obligations.CapacitiesAreKept := by
  intro s t law h
  have before := (fits_iff s).mpr law
  have answered (t : State) (i : Instr) (a : Answer) (law : Fits t) : Fits (t.answered i a) :=
    { law with link := by simpa [State.linkBounded, Link.requests, Link.notes, State.answered, deliver_entries] using law.link }
  have after : Fits t := step_keeps (P := Fits) h before (fun _ law => { law with })
    (fun _ _ _ law change => change_fits law change) answered
  refine ⟨(fits_iff t).mp after, fun work tags => ⟨jobs_le before work, jobs_le after ?_⟩⟩
  exact (TableLaws.workQueueLawsAreKept s t work tags h).1

end Sys2Proof.Machine.Capacities

/-! The Key Directory's requests and events (R6, R7, R15 to R17, R70): the slots that are selected, read, withdrawn and due. -/

namespace Sys2Proof.Machine.Directory

open Loading (exec_outcome findSlot_eq_none_iff activeSeal_eq_none_iff)

/-! ### Selection (R6, R7) -/

section
variable {slots : List Slot} {issuer : Issuer} {generation : Generation} {n bound : Nat} {k : MasterKey} {epoch : Epoch}

theorem resolveAuth_of_held (unique : triplesUnique slots) (at_n : slots[n]? = some ⟨some k, epoch, bound⟩)
    (sameIssuer : k.issuer = issuer) (sameGeneration : k.generation = generation) (role : k.role = .auth) (second : Nat) :
    resolveAuth slots issuer generation second =
      if k.state = .standby then .error (.keyNotYet .auth n generation)
      else if k.state = .draining then .error (.keyRetired .auth n generation)
      else if second < k.notBefore.toNat then .error (.keyNotYet .auth n generation)
      else if k.notAfter.toNat ≤ second then .error (.keyRetired .auth n generation)
      else .ok ⟨n, epoch⟩ := by
  have held : heldAt slots n = some k := by simp [heldAt, at_n]
  have found := Scheduling.findSlot_of_holds unique ⟨k, held, sameIssuer, sameGeneration, role, rfl⟩
  subst sameGeneration
  simp only [resolveAuth, found, at_n]
  cases k.state <;> rfl

theorem resolveSeal_of_held (one : oneActiveSeal slots) (at_n : slots[n]? = some ⟨some k, epoch, bound⟩)
    (sameIssuer : k.issuer = issuer) (role : k.role = .seal) (state : k.state = .active) (generation : Generation)
    (second : Nat) :
    resolveSeal slots issuer generation second =
      if second < k.notBefore.toNat then .error (.keyNotYet .seal n k.generation)
      else if k.notAfter.toNat ≤ second then .error (.noKey 2 (some n) k.generation)
      else .ok (⟨n, epoch⟩, k.generation) := by
  have held : heldAt slots n = some k := by simp [heldAt, at_n]
  have found := Transactions.activeSeal_of_active one held role state
  subst sameIssuer
  simp only [resolveSeal, found, at_n]

end

/-- Settles O15: R1 and R2 make the slot of a triple and the ACTIVE SEAL slot of an issuer the ones found. -/
theorem selectionOfKeys : Obligations.SelectionOfKeys := by
  intro slots issuer generation now
  refine ⟨fun none => ?_, fun n k e x unique at_n sameIssuer sameGeneration role => ?_, fun none => ?_,
    fun n k e x one at_n sameIssuer role state => ?_⟩
  · rw [resolveAuth, (findSlot_eq_none_iff ..).mpr none]
  · rw [resolveAuth_of_held unique at_n sameIssuer sameGeneration role]
    cases k.state <;> rfl
  · rw [resolveSeal, (activeSeal_eq_none_iff ..).mpr none]
  · exact resolveSeal_of_held one at_n sameIssuer role state generation now

/-! ### KEY_READ (R17) -/

/-- KEY_READ is taken in HALTED too, handed over or not (R17, R163). -/
theorem exec_keyRead {s t : State} {index : Byte} {a : Answer}
    (taken : s.takes (.keyRead index) ∨ (s.power = .running ∧ s.service = .halted)) (outcome : ownKeyRead index s = (t, a)) :
    exec (.keyRead index) s = .next (t.answered (.keyRead index) a) := by
  obtain taken | ⟨running, halted⟩ := taken
  · exact exec_outcome rfl rfl taken outcome
  · have passes : s.linkRefusal (.keyRead index) = none := by
      rw [State.linkRefusal, halted]
      exact ite_self none
    rw [exec, execKeyRead, request_taken running passes, outcome]

/-- Settles O31: the slot at the index decides the answer. -/
theorem keyReadReportsTheSlot : Obligations.KeyReadReportsTheSlot := by
  intro s index taken
  refine ⟨fun k e n at_index => exec_keyRead taken ?_, fun empty => exec_keyRead taken ?_⟩
  · rw [ownKeyRead, at_index]
  · cases at_index : s.slots[index.toNat]? with
    | none => rw [ownKeyRead, at_index]
    | some x =>
      obtain ⟨held, epoch, bound⟩ := x
      cases held with
      | none => rw [ownKeyRead, at_index]
      | some k => exact absurd at_index (empty k epoch bound)

/-! ### The slots of an event, in ascending index -/

theorem mem_range_slots {slots : List Slot} {n : Nat} : n ∈ List.range slots.length ↔ ∃ x, slots[n]? = some x := by
  rw [List.mem_range]
  exact ⟨fun lt => ⟨_, List.getElem?_eq_getElem lt⟩, fun ⟨_, at_n⟩ => (List.getElem?_eq_some_iff.mp at_n).1⟩

theorem isFor_iff (x : Slot) (issuer : Issuer) (generation : Generation) (role : Role) :
    x.isFor issuer generation role = true ↔
      ∃ k, x.held = some k ∧ k.issuer = issuer ∧ k.generation = generation ∧ k.role = role := by
  unfold Slot.isFor
  cases x.held <;> simp [and_assoc]

theorem windowEnded_iff (x : Slot) (second : Nat) :
    x.windowEnded second = true ↔ ∃ k, x.held = some k ∧ k.notAfter.toNat ≤ second := by
  unfold Slot.windowEnded
  cases x.held <;> simp

/-- A KEY_WITHDRAW matches the slots of its issuer and generation whose role is in its role set (R15). -/
theorem mem_matchingSlots {slots : List Slot} {issuer : Issuer} {generation : Generation} {roles : Byte} {n : Nat} :
    n ∈ matchingSlots slots issuer generation roles ↔
      ∃ k, heldAt slots n = some k ∧ k.issuer = issuer ∧ k.generation = generation ∧
        ((roles.getLsbD 0 = true ∧ k.role = .auth) ∨ (roles.getLsbD 1 = true ∧ k.role = .seal)) := by
  rw [matchingSlots, List.mem_filter, mem_range_slots]
  cases at_n : slots[n]? with
  | none => simp [heldAt, at_n]
  | some x =>
    simp only [heldAt, at_n, Option.bind_some, Bool.or_eq_true, Bool.and_eq_true, isFor_iff]
    cases x.held <;> simp
    tauto

theorem matchingSlots_pairwise (slots : List Slot) (issuer : Issuer) (generation : Generation) (roles : Byte) :
    (matchingSlots slots issuer generation roles).Pairwise (· < ·) := List.pairwise_lt_range.filter _

/-- The slots that are due are those whose window has ended (R16). -/
theorem mem_endedSlots {s : State} {now : Nat} (clock : s.clock.time = some now) {n : Nat} :
    n ∈ s.endedSlots ↔ ∃ k, heldAt s.slots n = some k ∧ k.notAfter.toNat ≤ now / 1000 := by
  rw [State.endedSlots, clock]
  dsimp only
  rw [List.mem_filter, mem_range_slots]
  cases at_n : s.slots[n]? with
  | none => simp [heldAt, at_n]
  | some x => simp [heldAt, at_n, windowEnded_iff]

theorem endedSlots_pairwise (s : State) : s.endedSlots.Pairwise (· < ·) := by
  unfold State.endedSlots
  split
  · exact .nil
  · exact List.pairwise_lt_range.filter _

/-! ### KEY_WITHDRAW (R15) -/

/-- Settles O32: the checks in order, and the matching slots as the one ascending list of their members. -/
theorem keyWithdrawOutcomes : Obligations.KeyWithdrawOutcomes := by
  intro s issuer generation roles taken
  dsimp only
  have outcome {t a} := exec_outcome (t := t) (a := a) (i := .keyWithdraw issuer generation roles) rfl rfl taken
  refine ⟨fun invalid => outcome ?_, fun notZero notAll => ?_⟩
  · rw [ownKeyWithdraw, if_pos ((Scheduling.issuerValid_eq_false_iff issuer).mpr invalid)]
  have valid : ¬ issuerValid issuer = false := fun invalid =>
    ((Scheduling.issuerValid_eq_false_iff issuer).mp invalid).elim notZero notAll
  refine ⟨fun outside => outcome ?_, fun least most => ⟨fun none => outcome ?_, fun found held ascending members => outcome ?_⟩⟩
  · rw [ownKeyWithdraw, if_neg valid, if_pos (by omega)]
  · have empty : matchingSlots s.slots issuer generation roles = [] :=
      List.eq_nil_iff_forall_not_mem.mpr fun n mem => none n (mem_matchingSlots.mp mem)
    rw [ownKeyWithdraw, if_neg valid, if_neg (by omega), if_pos empty]
  · have same : matchingSlots s.slots issuer generation roles = found :=
      (matchingSlots_pairwise ..).eq_of_mem_iff ascending fun n => mem_matchingSlots.trans (members n).symm
    rw [ownKeyWithdraw, same, if_neg valid, if_neg (by omega), if_neg held]
    rfl

/-! ### WINDOW_END and PREFETCH_EXPIRY (R16, R70) -/

section
variable {s : State} (running : s.power = .running)
include running

theorem exec_windowEnd : exec .windowEnd s = .next (if s.endedSlots = [] then s else s.withdraw s.endedSlots) :=
  event_running (effect := fun s => if s.endedSlots = [] then s else s.withdraw s.endedSlots) running

theorem exec_prefetchExpiry (sequence : Nat) :
    exec (.prefetchExpiry sequence) s = .next (s.setJobs (s.jobs.filter fun j => !s.expires sequence j)) :=
  event_running (effect := fun s => s.cancelJobs (s.expires sequence)) running

end

/-- Settles O42: the slots that are due as the one ascending list of their members, and the boundary of the 1000 ms. -/
theorem windowEndAndPrefetchExpiry : Obligations.WindowEndAndPrefetchExpiry := by
  intro s running
  refine ⟨fun unset => ⟨?_, fun sequence => ?_⟩, fun now clock => ⟨fun open_ => ?_, fun found held ascending members => ?_,
    fun sequence => ?_⟩⟩
  · have empty : s.endedSlots = [] := by rw [State.endedSlots, unset]
    rw [exec_windowEnd running, if_pos empty]
  · have stay : (fun j => !s.expires sequence j) = fun _ => true := funext fun j => by simp [State.expires, State.due, unset]
    rw [exec_prefetchExpiry running, stay, List.filter_true]
    rfl
  · have empty : s.endedSlots = [] := List.eq_nil_iff_forall_not_mem.mpr fun n mem => by
      obtain ⟨k, at_n, ended⟩ := (mem_endedSlots clock).mp mem
      exact absurd (open_ n k at_n) (by omega)
    rw [exec_windowEnd running, if_pos empty]
  · have same : s.endedSlots = found :=
      (endedSlots_pairwise s).eq_of_mem_iff ascending fun n => (mem_endedSlots clock).trans (members n).symm
    rw [exec_windowEnd running, same, if_neg held]
  · have due (time : Nat) : s.due time = decide (time ≤ now) := by rw [State.due, clock]
    rw [exec_prefetchExpiry running]
    simp only [State.expires, due]

end Sys2Proof.Machine.Directory
